-- ==== Sys2Proof/Word.lean ====
section
/-! DEFINITION. The word types of CORE: the byte (00_scope.md R9, 20_memory.md R51), the 16-bit value of LEN and of the
checksum (R8, R170), and the 11-bit count that CUR, EXP and TXLEN hold (10_state.md R20). -/

namespace Sys2Proof

/-- A byte: 8 bits, the addressable unit everywhere (R9, R51). -/
abbrev Byte := BitVec 8

/-- A 16-bit value: LEN, the CRC, the CRC register (R8 `CRC_WIDTH`, R20 `CRCR`). -/
abbrev Word := BitVec 16

/-- An 11-bit element: `CUR`, `EXP`, `TXLEN` (R20). -/
abbrev Count := BitVec 11

end Sys2Proof
end

