-- ==== Sys2Proof/Config.lean ====
section
/-! DEFINITION. The constants of the block (00_scope.md R8) and the five checksum parameters, which the spec leaves open as
named parameters of an instance with one default (42_checksum.md R172, 92_eei_decisions.md D4, D30). -/

namespace Sys2Proof

/-- The checksum parameters `CRC_POLY`, `CRC_INIT`, `CRC_REFIN`, `CRC_REFOUT`, `CRC_XOROUT` (R8, R171).
They are fixed when an instance is built (R193, D30). -/
structure CrcParams where
  poly   : Word
  init   : Word
  refin  : Bool
  refout : Bool
  xorout : Word
  deriving DecidableEq, Repr

namespace Config

/-- The default checksum parameters, CRC-16/CCITT-FALSE (R172, decision D4; log entry 1). -/
def crcDefault : CrcParams :=
  { poly := 0x1021, init := 0xFFFF, refin := false, refout := false, xorout := 0x0000 }

/-- `STX`, the start-of-frame marker (R8, R71). -/
def stx : Byte := 0xF5

/-- `ERR_BODY`, the one payload byte of the error frame (R8, R79). -/
def errBody : Byte := 0xFF

/-- `MAX_PAYLOAD` (R8). -/
@[simp] abbrev maxPayload : Nat := 1024

/-- `HDR_LEN`, the bytes collected in `AwaitingLength` (R8, R132). -/
@[simp] abbrev hdrLen : Nat := 4

/-- `CRC_LEN`, the bytes of the trailer (R8). -/
@[simp] abbrev crcLen : Nat := 2

/-- `FRAME_OVERHEAD`, the frame bytes that are not payload (R8, R100). -/
@[simp] abbrev frameOverhead : Nat := 7

/-- `RX_CAP`, the size of RXBUF (R8, R24; 90_conflicts.md C1). -/
@[simp] abbrev rxCap : Nat := 1030

/-- `TX_CAP`, the size of TXBUF (R8, R25; 90_conflicts.md C1). -/
@[simp] abbrev txCap : Nat := 1031

/-- `MIN_LEN`, the smallest LEN the decoder accepts (R8, R134). -/
@[simp] abbrev minLen : Nat := 2

/-- `MAX_LEN`, the largest LEN the decoder accepts (R8, R134). -/
@[simp] abbrev maxLen : Nat := 1026

/-- The largest operand length that format S can write (30_encoding.md R82). -/
@[simp] abbrev maxOperand : Nat := 65535

end Config

end Sys2Proof
end

