-- ==== Sys2Proof/Syntax.lean ====
section
/-! DEFINITION. The instructions of CORE: one constructor per row of spec/opcode_table.json. The seven operations and the
reserved command words arrive on the command port (30_encoding.md R82 to R84). The two WIRE rows arrive on the wire-in stream
(R70, R79). -/

namespace Sys2Proof

/-- The operations of the opcode map (R83), the reserved command words (R84), and the two wire formats (R70, R79). -/
inductive Instr where
  /-- `RST`: initialise the block (R190). -/
  | rst
  /-- `ENC p`: encode the payload and send the frame (R100). -/
  | enc (p : List Byte)
  /-- `RPT`: repeat the last frame (R106). -/
  | rpt
  /-- `RAW s`: write bytes to the sink without framing (R107). -/
  | raw (s : List Byte)
  /-- `RXB b`: take one received byte (R130). -/
  | rxb (b : Byte)
  /-- `CRC s`: compute the checksum of a byte sequence (R175). -/
  | crc (s : List Byte)
  /-- `SETOS`: set the one-shot mode flag (R191). -/
  | setos
  /-- A reserved command word, kept as it was written (R84, R192). -/
  | reserved (cmd : Byte)
  /-- `FRAME`: a whole frame of payload `p` on the wire-in stream (R70; log entry 4). -/
  | frame (p : List Byte)
  /-- `ERRFRAME`: the error frame on the wire-in stream (R79; log entry 4). -/
  | errframe
  deriving DecidableEq, Repr

/-- Where an instruction's bytes arrive: the command port (R82) or the wire-in stream (R50). -/
inductive Port where
  | command
  | wire
  deriving DecidableEq, Repr

/-- The port of each instruction: the rows of format WIRE arrive on the wire-in stream. -/
def Instr.port : Instr → Port
  | .rst | .enc _ | .rpt | .raw _ | .rxb _ | .crc _ | .setos | .reserved _ => .command
  | .frame _ | .errframe => .wire

end Sys2Proof
end

