-- ==== Sys2Proof/Machine/State.lean ====
section
/-! DEFINITION. The state of CORE (10_state.md R20), the three output histories (R33), and the environment's side of the interface:
the handler's answers (41_decoder.md R144) and the inputs waiting at the ports (60_exceptions.md R220); and two records by which the
invariants of R34 can be said. -/

namespace Sys2Proof.Machine

/-- `ST`, the decoder state: three values, so that code 3 cannot be written (R21, R87). -/
inductive DecState where
  | awaitingStart
  | awaitingLength
  | receiving
  deriving DecidableEq, Repr

/-- The result codes of 30_encoding.md R85. -/
inductive ResultCode where
  | ok
  | delivered
  | headerRedundancyMismatch
  | checksumMismatch
  | lengthOutOfRange
  | bufferOverflow
  | illegalCommand
  deriving DecidableEq, Repr

/-- What an operation returns: the code, the `ASYM` bit, and for CRC the 16-bit value (R85). -/
structure OpResult where
  code  : ResultCode
  asym  : Bool
  value : Option Word
  deriving DecidableEq, Repr

/-- A byte buffer: (index, byte) pairs with strictly rising indices. An index that is not listed holds no value: it has not been
written since reset (R34 item 5; log entry 3). -/
abbrev Memory := List Host.Cell

/-- What the environment has put at the ports (R220, R240; log entry 10). -/
inductive Request where
  /-- The hardware reset input (R240). -/
  | resetLine
  /-- Bytes on the command port (R82): whole commands, or a part of one. -/
  | command (bytes : List Byte)
  /-- A chunk given to `feed`, or what is left of it (R143). -/
  | feed (chunk : List Byte)
  deriving DecidableEq, Repr

/-- CORE, its output histories and its environment. Plain data. -/
structure State where
  /-- `ST` (R21). -/
  st : DecState
  /-- `CUR`, the write cursor (R22). -/
  cur : Count
  /-- `EXP`, the expected length (R23). -/
  exp : Count
  /-- `RXBUF`, the accumulation buffer (R24). -/
  rxbuf : Memory
  /-- `TXBUF`, the last-sent frame (R25). -/
  txbuf : Memory
  /-- `TXLEN`, the length of the last-sent frame (R26). -/
  txlen : Count
  /-- `OS`, the one-shot flag (R27). -/
  os : Bool
  /-- The checksum parameters of this instance; no operation writes them (R172, R193; log entry 2). -/
  crcParams : CrcParams
  /-- The history `TX` of write transactions, oldest first (R33). -/
  tx : List (List Byte)
  /-- The history `DLV` of delivered payloads, oldest first (R33). -/
  dlv : List (List Byte)
  /-- The results of the host's operations, oldest first (R33, R85). -/
  results : List OpResult
  /-- The results that the operations of the handler returned to it, oldest first (R85). -/
  handlerResults : List OpResult
  /-- What the handler issues at each coming delivery, the next one first (R144; log entry 6). -/
  handler : List (List Instr)
  /-- The inputs waiting at the ports, the next one first (R220; log entry 10). -/
  inputs : List Request
  /-- Two operations are being issued at once by different drivers (R64, R243; log entry 8). -/
  contended : Bool
  /-- Some byte of the chunk being fed has completed a frame (R143). -/
  feedHit : Bool
  /-- What each call of `feed` returned, oldest first (R143). -/
  feedReturns : List Bool
  /-- The bytes on the command port that are no whole command yet (R82; log entry 11). -/
  heldCommand : List Byte
  /-- The bytes that RXB has taken since `ST` was last `AwaitingStart`, the STX first (R34 items 2 and 3, R151). A record: no
  operation reads it (log entry 25). -/
  frameBytes : List Byte
  /-- The last frame that ENC or ERRF handed to the sink since reset (R34 item 4). A record: no operation reads it (log entry 25). -/
  lastFrame : Option (List Byte)
  deriving DecidableEq, Repr

/-- Why the machine stops with a fault. The spec lets a model make these reads a fault and prove them unreachable (R34 item 5,
93_implementation_defined.md U10): no state that satisfies the invariants of R34 meets one. -/
inductive Fault where
  /-- RXB would reach RXBUF outside its 1030 bytes (R24, R58). Raised by the decoder's stores and reads. Safe. -/
  | rxOutside
  /-- RXB would read a byte of RXBUF that nothing has written since reset (R34 item 5). Safe. -/
  | rxUnwritten
  /-- RPT would read TXBUF outside its 1031 bytes (R25, R58). Safe. -/
  | txOutside
  /-- RPT would read a byte of TXBUF that nothing has written since reset (R34 item 5). Safe. -/
  | txUnwritten
  deriving DecidableEq, Repr

/-- Why the machine refuses to give a meaning. -/
inductive Refusal where
  /-- An instruction that this model has given no meaning. Raised by exec's own arms alone. Safe. -/
  | notModelled (mnemonic : String)
  /-- The handler issued RXB, a feed or RST (20_memory.md R64, R220; decision D17). Raised while a handler runs. Safe. -/
  | nestedOperation
  /-- Two drivers issued operations at once (R64, R243). Raised by step. Safe. -/
  | concurrentDrivers
  deriving DecidableEq, Repr

/-- CORE right after reset (R36, R240), with empty histories, nothing at the ports, and a handler that issues nothing (log entries 2,
6, 7 and 25). -/
def State.reset : State :=
  { st := .awaitingStart
    cur := 0#11
    exp := 0#11
    rxbuf := []
    txbuf := []
    txlen := 0#11
    os := false
    crcParams := Config.crcDefault
    tx := []
    dlv := []
    results := []
    handlerResults := []
    handler := []
    inputs := []
    contended := false
    feedHit := false
    feedReturns := []
    heldCommand := []
    frameBytes := []
    lastFrame := none }

end Sys2Proof.Machine
end

