-- ==== Sys2Proof/Machine/Flags.lean ====
section
/-! DEFINITION. The one flag of the block, OS (10_state.md R31), the ASYM bit of a result (30_encoding.md R85), and the encodings of
results and states (R85, R87). -/

namespace Sys2Proof.Machine

/-- `OS <- v` (R27). -/
def State.setOs (v : Bool) (s : State) : State := { s with os := v }

/-- The code of `ST` (R87). -/
def DecState.code : DecState → BitVec 2
  | .awaitingStart => 0
  | .awaitingLength => 1
  | .receiving => 2

/-- The code of a result, `res[2:0]` (R85). -/
def ResultCode.code : ResultCode → BitVec 3
  | .ok => 0
  | .delivered => 1
  | .headerRedundancyMismatch => 2
  | .checksumMismatch => 3
  | .lengthOutOfRange => 4
  | .bufferOverflow => 5
  | .illegalCommand => 6

/-- The result byte: the code in bits 2..0, zeros in bits 6..3, `ASYM` in bit 7 (R85). -/
def OpResult.byte (r : OpResult) : Byte :=
  BitVec.ofBool r.asym ++ (0 : BitVec 4) ++ r.code.code

/-- A result with a code and an `ASYM` bit, and no value (R85). -/
def OpResult.mkFlag (code : ResultCode) (asym : Bool) : OpResult :=
  { code := code, asym := asym, value := none }

/-- A result with a code only: no frame was encoded with `OS` set (R85). -/
def OpResult.plain (code : ResultCode) : OpResult := OpResult.mkFlag code false

/-- The result of the operation CRC: `OK` and the value (R85, R175). -/
def OpResult.ofValue (v : Word) : OpResult :=
  { code := .ok, asym := false, value := some v }

end Sys2Proof.Machine
end

