-- ==== Sys2Proof/Machine/Crc.lean ====
section
/-! DEFINITION. The CRC-16/CCITT generator, parametrised by `CrcParams` (42_checksum.md R171, R173). The working register CRCR is
a local value of one evaluation (10_state.md R28; log entry 15). -/

namespace Sys2Proof.Machine

/-- `reflect8`: the 8 bits in reverse order (R171). -/
def reflect8 (b : Byte) : Byte := b.reverse

/-- `reflect16`: the 16 bits in reverse order (R171). -/
def reflect16 (r : Word) : Word := r.reverse

/-- One clock of the shift register (R173): the bit shifted out decides whether the polynomial is added. -/
def crcBit (poly r : Word) : Word :=
  if r.msb then (r <<< 1) ^^^ poly else r <<< 1

/-- `n` clocks of the shift register (R173 repeats 8). -/
def crcBits (poly : Word) : Nat → Word → Word
  | 0, r => r
  | n + 1, r => crcBits poly n (crcBit poly r)

/-- `crc_byte`: one byte through the generator (R173). -/
def crcByte (c : CrcParams) (r : Word) (b : Byte) : Word :=
  let b' := if c.refin then reflect8 b else b
  crcBits c.poly 8 (r ^^^ (b'.setWidth 16 <<< 8))

/-- `CRCR` after the bytes of one evaluation: loaded with `CRC_INIT`, updated once per byte in order (R28, R171). -/
def crcr (c : CrcParams) (s : List Byte) : Word :=
  s.foldl (crcByte c) c.init

/-- `crc16`: the checksum of a byte sequence (R170, R171). -/
def crc16 (c : CrcParams) (s : List Byte) : Word :=
  (if c.refout then reflect16 (crcr c s) else crcr c s) ^^^ c.xorout

/-- The table of the byte-wide form: `T[k] = crc_byte(0, k)` (R174). -/
def crcTable (c : CrcParams) (k : Byte) : Word := crcByte c 0 k

end Sys2Proof.Machine
end

