-- ==== Sys2Proof/Machine/Operands.lean ====
section
/-! DEFINITION. The arithmetic primitives of 00_scope.md R11, the length-field validator's two tests (41_decoder.md R133, R134)
and the frame function (40_encoder.md R101) with the error frame (30_encoding.md R79). -/

namespace Sys2Proof.Machine

/-- `lo(v)`: the low byte (R11). -/
def lo (v : Word) : Byte := v.setWidth 8

/-- `hi(v)`: the high byte (R11). -/
def hi (v : Word) : Byte := (v >>> 8).setWidth 8

/-- `le16(a, b)`: the little-endian assembly `a + 256 * b` (R11, R52). -/
def le16 (a b : Byte) : Word := b ++ a

/-- `cpl(a)`: the bitwise complement of a byte (R11). -/
def cpl (a : Byte) : Byte := ~~~a

/-- The redundancy relation of a header (R73, R133): each length byte is the complement of its redundancy byte. -/
def redundancyOk (h0 h1 h2 h3 : Byte) : Bool :=
  decide (h0 = cpl h2 ∧ h1 = cpl h3)

/-- The range of LEN that the decoder accepts, `2 ≤ LEN ≤ 1026` (R134). -/
def lengthOk (n : Word) : Bool :=
  decide (Config.minLen ≤ n.toNat ∧ n.toNat ≤ Config.maxLen)

/-- The LEN a frame advertises: `L + 2`, or `L + 3` under the one-shot flag (R101, R104). -/
def advertisedLen (p : List Byte) (x : Bool) : Word :=
  BitVec.ofNat 16 (p.length + Config.crcLen + x.toNat)

/-- The four header bytes of a LEN value (R77). -/
def header (n : Word) : List Byte :=
  [lo n, hi n, cpl (lo n), cpl (hi n)]

/-- The two trailer bytes of a body: its checksum, low byte first (R75, R178). -/
def trailer (c : CrcParams) (p : List Byte) : List Byte :=
  [lo (crc16 c p), hi (crc16 c p)]

/-- `frame(p, x)`: STX, header, body, trailer (R101; layout R70, one-shot form R80). -/
def frame (c : CrcParams) (p : List Byte) (x : Bool) : List Byte :=
  Config.stx :: header (advertisedLen p x) ++ p ++ trailer c p

/-- The payload of the error frame (R79). -/
def errPayload : List Byte := [Config.errBody]

/-- The error frame: the frame of payload `[0xFF]` (R79); `x` is the one-shot flag when it is sent (R108). -/
def errFrame (c : CrcParams) (x : Bool) : List Byte := frame c errPayload x

end Sys2Proof.Machine
end

