-- ==== Sys2Proof/Machine/Ops.lean ====
section
/-! DEFINITION. The shared operations: sequencing of outcomes, the two byte buffers (20_memory.md), the named updates of State, the
send path of the encoder (40_encoder.md R100 to R104), and the reaction to a receive error, which is all of "trap entry" on this
hardware (60_exceptions.md R206). There is no return from it (R208). -/

namespace Sys2Proof.Machine

/-! ### Outcomes -/

/-- What an operation answers before its result is recorded. -/
abbrev Answer := Host.Outcome (State × OpResult) Fault Refusal

/-- Go on with the next state; a fault or a refusal ends the run. -/
def andThen {α β : Type} (o : Host.Outcome α Fault Refusal) (k : α → Host.Outcome β Fault Refusal) :
    Host.Outcome β Fault Refusal :=
  match o with
  | .next a => k a
  | .fault f => .fault f
  | .refused r => .refused r

/-! ### Byte buffers -/

/-- The indices rise strictly and lie inside a buffer of `cap` bytes. -/
def Memory.wf (cap : Nat) (m : Memory) : Bool :=
  decide (m.Pairwise (fun x y => x.1 < y.1)) && m.all (fun x => decide (x.1 < cap))

/-- `M[i]` (R12): the byte at an index, none where nothing has written. -/
def Memory.readByte : Memory → Nat → Option Byte
  | [], _ => none
  | (j, b) :: m, i => if j = i then some b else Memory.readByte m i

/-- `M[i] <- b` (R12), keeping the indices in order. -/
def Memory.writeByte : Memory → Nat → Byte → Memory
  | [], i, b => [(i, b)]
  | (j, c) :: m, i, b =>
    if i < j then (i, b) :: (j, c) :: m
    else if i = j then (i, b) :: m
    else (j, c) :: Memory.writeByte m i b

/-- `MemRead(M, i, n)` (R12): none where one of the bytes has not been written. -/
def Memory.readBytes (m : Memory) : Nat → Nat → Option (List Byte)
  | _, 0 => some []
  | i, n + 1 =>
    match m.readByte i, Memory.readBytes m (i + 1) n with
    | some b, some bs => some (b :: bs)
    | _, _ => none

/-- `MemWrite(M, i, n, s)` (R12): the bytes of `s` at consecutive indices. -/
def Memory.writeBytes (m : Memory) : Nat → List Byte → Memory
  | _, [] => m
  | i, b :: bs => Memory.writeBytes (m.writeByte i b) (i + 1) bs

/-! ### Named updates of State -/

/-- `ST <- v` (R12). -/
def State.setSt (v : DecState) (s : State) : State := { s with st := v }

/-- `ST <- AwaitingStart` at a frame boundary (R136, R138, R206): no frame is in progress. -/
def State.endFrame (s : State) : State := { s with st := .awaitingStart, frameBytes := [] }

/-- `CUR <- 0; ST <- AwaitingLength` on a start marker (R131): a frame is in progress. -/
def State.startFrame (b : Byte) (s : State) : State :=
  { s with cur := 0#11, st := .awaitingLength, frameBytes := [b] }

/-- `CUR <- v`. -/
def State.setCur (v : Count) (s : State) : State := { s with cur := v }

/-- `EXP <- v`. -/
def State.setExp (v : Count) (s : State) : State := { s with exp := v }

/-- A store to RXBUF at the cursor, and the cursor moved on (R132, R137). -/
def State.pushRx (b : Byte) (s : State) : State :=
  { s with rxbuf := s.rxbuf.writeByte s.cur.toNat b, cur := s.cur + 1#11, frameBytes := s.frameBytes ++ [b] }

/-- The copy of a frame in the last-sent-frame cache (R103). -/
def State.cacheFrame (f : List Byte) (s : State) : State :=
  { s with txbuf := s.txbuf.writeBytes 0 f, txlen := BitVec.ofNat 11 f.length }

/-- The record of the last frame that was handed to the sink (R34 item 4). -/
def State.noteFrame (f : List Byte) (s : State) : State := { s with lastFrame := some f }

/-- `TxWrite(f)` (R12, R102): one more write transaction in the history. -/
def State.txWrite (f : List Byte) (s : State) : State := { s with tx := s.tx ++ [f] }

/-- The delivery of a payload in the history (R12, R33). -/
def State.logDelivery (p : List Byte) (s : State) : State := { s with dlv := s.dlv ++ [p] }

/-- The result of an operation of the host (R33). -/
def State.record (r : OpResult) (s : State) : State := { s with results := s.results ++ [r] }

/-- The result of an operation of the handler (R85). -/
def State.recordHandler (r : OpResult) (s : State) : State :=
  { s with handlerResults := s.handlerResults ++ [r] }

/-- What the handler issues at the coming deliveries. -/
def State.setHandler (h : List (List Instr)) (s : State) : State := { s with handler := h }

/-- The inputs waiting at the ports. -/
def State.setInputs (q : List Request) (s : State) : State := { s with inputs := q }

/-- The bytes on the command port that are no whole command yet. -/
def State.setHeld (h : List Byte) (s : State) : State := { s with heldCommand := h }

/-- Whether a second driver is issuing an operation. -/
def State.setContended (v : Bool) (s : State) : State := { s with contended := v }

/-- What the call of `feed` in progress has seen. -/
def State.setFeedHit (v : Bool) (s : State) : State := { s with feedHit := v }

/-- The call of `feed` returns its boolean (R143). -/
def State.returnFeed (s : State) : State :=
  { s with feedReturns := s.feedReturns ++ [s.feedHit], feedHit := false }

/-- The effect of reset on a running block, RST or the reset input: R190's five writes and nothing else; the two records begin
again (log entry 25). -/
def State.initialise (s : State) : State :=
  { s with
    st := .awaitingStart
    cur := 0#11
    exp := 0#11
    txlen := 0#11
    os := false
    frameBytes := []
    lastFrame := none }

/-! ### Results -/

/-- The host reads the operation's result (R33). -/
def finish (q : State × OpResult) : State := q.1.record q.2

/-- A host operation ends: its result is recorded. -/
def finishOp (a : Answer) : Host.Outcome State Fault Refusal :=
  andThen a fun q => .next (finish q)

/-! ### The decoder's accesses to RXBUF -/

/-- `RXBUF[CUR] <- b; CUR <- CUR + 1` (R132, R137), inside the buffer's 1030 bytes (R24). -/
def storeRx {α : Type} (b : Byte) (s : State) (k : State → Host.Outcome α Fault Refusal) : Host.Outcome α Fault Refusal :=
  if s.cur.toNat < Config.rxCap then k (s.pushRx b) else .fault .rxOutside

/-- `MemRead(RXBUF, i, n)` (R12), of written bytes inside the buffer. -/
def readRxRange {α : Type} (s : State) (i n : Nat) (k : List Byte → Host.Outcome α Fault Refusal) :
    Host.Outcome α Fault Refusal :=
  if i + n ≤ Config.rxCap then
    match s.rxbuf.readBytes i n with
    | some bs => k bs
    | none => .fault .rxUnwritten
  else .fault .rxOutside

/-- `RXBUF[i]` (R12), a written byte inside the buffer. -/
def readRx {α : Type} (s : State) (i : Nat) (k : Byte → Host.Outcome α Fault Refusal) : Host.Outcome α Fault Refusal :=
  if i < Config.rxCap then
    match s.rxbuf.readByte i with
    | some b => k b
    | none => .fault .rxUnwritten
  else .fault .rxOutside

/-! ### The encoder's operations -/

/-- Send a frame the way ENC does: consume the flag, cache the frame, hand it to the sink (R100, R103, R104). -/
def sendFrame (f : List Byte) (s : State) : State :=
  (((s.setOs false).cacheFrame f).noteFrame f).txWrite f

/-- `ENC` (R100, R105): `BufferOverflow` before any effect, else the frame is sent and the result carries `ASYM`. -/
def encOp (p : List Byte) (s : State) : State × OpResult :=
  if Config.maxPayload < p.length then (s, OpResult.plain .bufferOverflow)
  else (sendFrame (frame s.crcParams p s.os) s, OpResult.mkFlag .ok s.os)

/-- `RPT` (R106): the cached bytes once more, if there are any. -/
def rptOp (s : State) : Answer :=
  if s.txlen = 0#11 then .next (s, OpResult.plain .ok)
  else if s.txlen.toNat ≤ Config.txCap then
    match s.txbuf.readBytes 0 s.txlen.toNat with
    | some f => .next (s.txWrite f, OpResult.plain .ok)
    | none => .fault .txUnwritten
  else .fault .txOutside

/-- `RAW` (R107): the bytes go to the sink as they are. -/
def rawOp (bytes : List Byte) (s : State) : State × OpResult :=
  (s.txWrite bytes, OpResult.plain .ok)

/-- `CRC` (R175): the checksum of the bytes, and no change of state. -/
def crcOp (bytes : List Byte) (s : State) : State × OpResult :=
  (s, OpResult.ofValue (crc16 s.crcParams bytes))

/-- `SETOS` (R191). -/
def setosOp (s : State) : State × OpResult := (s.setOs true, OpResult.plain .ok)

/-- A reserved command word (R84, R192): no change of state, no output, `IllegalCommand`. -/
def reservedOp (s : State) : State × OpResult := (s, OpResult.plain .illegalCommand)

/-! ### The reaction to a receive error -/

/-- `ERRF` (R108): `ENC [0xFF]` in full, with its side effects; the answer says whether the flag was consumed. -/
def errf (s : State) : State × Bool :=
  ((encOp errPayload s).1, (encOp errPayload s).2.asym)

/-- The reaction to a receive error (R206): back to `AwaitingStart`, one error frame, no delivery, the error kind as the
result with the `ASYM` of the error frame (R85, R130). -/
def rejectFrame (kind : ResultCode) (s : State) : State × OpResult :=
  ((errf s.endFrame).1, OpResult.mkFlag kind (errf s.endFrame).2)

end Sys2Proof.Machine
end

