-- ==== Sys2Proof/Machine/Checksum.lean ====
section
/-! DEFINITION. The checksum family: the operation CRC (42_checksum.md R175). The generator itself is Machine/Crc.lean. -/

namespace Sys2Proof.Machine

/-- `CRC bytes` (R175). -/
def execCrc (bytes : List Byte) (s : State) : Host.Outcome State Fault Refusal := .next (finish (crcOp bytes s))

end Sys2Proof.Machine
end

