-- ==== Sys2Proof/Machine/Control.lean ====
section
/-! DEFINITION. The control family: RST, SETOS and the reserved command words (43_control.md R190 to R192). -/

namespace Sys2Proof.Machine

/-- `RST` (R190). -/
def execRst (s : State) : Host.Outcome State Fault Refusal := .next (finish (s.initialise, OpResult.plain .ok))

/-- `SETOS` (R191). -/
def execSetos (s : State) : Host.Outcome State Fault Refusal := .next (finish (setosOp s))

/-- A reserved command word: which one it is makes no difference (R192). -/
def execReserved (_cmd : Byte) (s : State) : Host.Outcome State Fault Refusal := .next (finish (reservedOp s))

end Sys2Proof.Machine
end

