-- ==== Sys2Proof/Machine/Encoder.lean ====
section
/-! DEFINITION. The encoder family: ENC, RPT, RAW (40_encoder.md R100 to R107). -/

namespace Sys2Proof.Machine

/-- `ENC p` (R100). -/
def execEnc (p : List Byte) (s : State) : Host.Outcome State Fault Refusal := .next (finish (encOp p s))

/-- `RPT` (R106). -/
def execRpt (s : State) : Host.Outcome State Fault Refusal := finishOp (rptOp s)

/-- `RAW bytes` (R107). -/
def execRaw (bytes : List Byte) (s : State) : Host.Outcome State Fault Refusal := .next (finish (rawOp bytes s))

end Sys2Proof.Machine
end

