-- ==== Sys2Proof/Machine/Decoder.lean ====
section
/-! DEFINITION. The decoder: RXB, the byte-stream synchronizer, the length-field validator, delivery to the handler (41_decoder.md
R130 to R144). -/

namespace Sys2Proof.Machine

/-! ### The handler -/

/-- One operation that the handler issues: the encoder-side operations run, a nested RXB, feed or RST has no meaning (R64, R144;
a reserved word: log entry 9). -/
def handlerOp (i : Instr) (s : State) : Answer :=
  match i with
  | .enc p => .next (encOp p s)
  | .rpt => rptOp s
  | .raw bytes => .next (rawOp bytes s)
  | .crc bytes => .next (crcOp bytes s)
  | .setos => .next (setosOp s)
  | .reserved _ => .next (reservedOp s)
  | .rst => .refused .nestedOperation
  | .rxb _ => .refused .nestedOperation
  | .frame _ => .refused .nestedOperation
  | .errframe => .refused .nestedOperation

/-- The handler's operations in order, each result returned to the handler (R85, R144). -/
def runHandler : List Instr → State → Host.Outcome State Fault Refusal
  | [], s => .next s
  | i :: rest, s => andThen (handlerOp i s) fun q => runHandler rest (q.1.recordHandler q.2)

/-- `Deliver(p)` (R12, R140): the payload in the history, then the operations that the handler issues. -/
def deliver (p : List Byte) (s : State) : Host.Outcome State Fault Refusal :=
  match s.handler with
  | [] => .next (s.logDelivery p)
  | ops :: rest => runHandler ops ((s.logDelivery p).setHandler rest)

/-! ### RXB in each decoder state -/

/-- `AwaitingStart` (R131): the synchronizer. -/
def rxbStart (b : Byte) (s : State) : State × OpResult :=
  (if b = Config.stx then s.startFrame b else s, OpResult.plain .ok)

/-- An accepted header (R135): `EXP <- n; CUR <- 0; ST <- Receiving`. -/
def acceptHeader (n : Word) (s : State) : State :=
  ((s.setExp (n.setWidth 11)).setCur 0#11).setSt .receiving

/-- The length-field validator on the four header bytes: redundancy first, then range (R133, R134, R209). -/
def validateHeader (h0 h1 h2 h3 : Byte) (s : State) : State × OpResult :=
  if redundancyOk h0 h1 h2 h3 then
    if lengthOk (le16 h0 h1) then (acceptHeader (le16 h0 h1) s, OpResult.plain .ok)
    else rejectFrame .lengthOutOfRange s
  else rejectFrame .headerRedundancyMismatch s

/-- `AwaitingLength` (R132, R133). -/
def rxbLength (b : Byte) (s : State) : Answer :=
  storeRx b s fun s1 =>
    if s1.cur.toNat < Config.hdrLen then .next (s1, OpResult.plain .ok)
    else
      readRx s1 0 fun h0 => readRx s1 1 fun h1 => readRx s1 2 fun h2 => readRx s1 3 fun h3 =>
        .next (validateHeader h0 h1 h2 h3 s1)

/-- The checksum is compared; the payload is delivered or the frame rejected (R139, R140, R141). -/
def judgeBody (body : List Byte) (t : Word) (s : State) : Answer :=
  if crc16 s.crcParams body = t then
    andThen (deliver body s) fun s2 => .next (s2, OpResult.plain .delivered)
  else .next (rejectFrame .checksumMismatch s)

/-- The last byte of a frame has been stored: `ST` first, then the body and the trailer are read back (R138, R139). -/
def completeFrame (s : State) : Answer :=
  let s1 := s.endFrame
  readRxRange s1 0 (s1.exp - 2#11).toNat fun body =>
    readRx s1 (s1.exp - 2#11).toNat fun c0 => readRx s1 (s1.exp - 1#11).toNat fun c1 =>
      judgeBody body (le16 c0 c1) s1

/-- `Receiving` (R137, R138). -/
def rxbReceive (b : Byte) (s : State) : Answer :=
  storeRx b s fun s1 =>
    if s1.cur < s1.exp then .next (s1, OpResult.plain .ok) else completeFrame s1

/-- `RXB b` before its result is recorded (R130): dispatch on `ST`. -/
def rxbOp (b : Byte) (s : State) : Answer :=
  match s.st with
  | .awaitingStart => .next (rxbStart b s)
  | .awaitingLength => rxbLength b s
  | .receiving => rxbReceive b s

/-- `RXB b` (R130). -/
def execRxb (b : Byte) (s : State) : Host.Outcome State Fault Refusal := finishOp (rxbOp b s)

/-- `FEED bytes` (R143): the RXB of every byte, in order. -/
def feedBytes : List Byte → State → Host.Outcome State Fault Refusal
  | [], s => .next s
  | b :: rest, s => andThen (execRxb b s) (feedBytes rest)

end Sys2Proof.Machine
end

