-- ==== Sys2Proof/Machine/Wire.lean ====
section
/-! DEFINITION. The WIRE rows of the opcode table: a whole frame, and the error frame, arriving on the wire-in stream. CORE takes
them byte by byte (30_encoding.md R70, R79; 41_decoder.md R143; log entry 4). -/

namespace Sys2Proof.Machine

/-- `FRAME`: the bytes of `frame(p, 0)` received one after another (R70, R111, R143). -/
def execFrame (p : List Byte) (s : State) : Host.Outcome State Fault Refusal :=
  feedBytes (frame s.crcParams p false) s

/-- `ERRFRAME`: the bytes of the error frame received one after another (R79, R143, R212). -/
def execErrframe (s : State) : Host.Outcome State Fault Refusal :=
  feedBytes (errFrame s.crcParams false) s

end Sys2Proof.Machine
end

