-- ==== Sys2Proof/Machine/Dispatch.lean ====
section
/-! DEFINITION. The meaning of every instruction, one arm per constructor. -/

namespace Sys2Proof.Machine

def exec (i : Instr) (s : State) : Host.Outcome State Fault Refusal :=
  match i with
  | .rst => Sys2Proof.Machine.execRst s
  | .enc p => Sys2Proof.Machine.execEnc p s
  | .rpt => Sys2Proof.Machine.execRpt s
  | .raw bytes => Sys2Proof.Machine.execRaw bytes s
  | .rxb b => Sys2Proof.Machine.execRxb b s
  | .crc bytes => Sys2Proof.Machine.execCrc bytes s
  | .setos => Sys2Proof.Machine.execSetos s
  | .reserved cmd => Sys2Proof.Machine.execReserved cmd s
  | .frame p => Sys2Proof.Machine.execFrame p s
  | .errframe => Sys2Proof.Machine.execErrframe s

end Sys2Proof.Machine
end

