-- ==== Sys2Proof/WellFormed.lean ====
section
/-! DEFINITION. Which instructions the encodings of 30_encoding.md can write: format S carries at most 65535 operand bytes
(R82), a reserved word is none of the seven command codes (R84), a wire frame carries at most 1024 payload bytes (R70), and the
frame of payload `[0xFF]` has a row of its own, ERRFRAME (R79). -/

namespace Sys2Proof

/-- An operand that format S can write (R82: `0 ≤ n ≤ 65535`). -/
abbrev operandFits (s : List Byte) : Prop := s.length ≤ Config.maxOperand

/-- A command word that R84 reserves: `0x07`, and every word with `cmd[7:3] ≠ 0`. -/
abbrev isReserved (cmd : Byte) : Prop := 7 ≤ cmd.toNat

/-- A payload whose frame the row FRAME stands for: at most 1024 bytes (R70), and not the error frame's (R79; log entry 5). -/
abbrev framePayload (p : List Byte) : Prop := p.length ≤ Config.maxPayload ∧ p ≠ [Config.errBody]

/-- The instruction can be written in the encodings of 30_encoding.md. -/
def Instr.wf : Instr → Bool
  | .rst | .rpt | .rxb _ | .setos | .errframe => true
  | .enc p => decide (operandFits p)
  | .raw s => decide (operandFits s)
  | .crc s => decide (operandFits s)
  | .reserved cmd => decide (isReserved cmd)
  | .frame p => decide (framePayload p)

end Sys2Proof
end

