-- ==== Sys2Proof/Decode.lean ====
section
/-! DEFINITION. The decoder of the command port (30_encoding.md R82 to R84) and of the wire-in stream (R70, R79), each total on any
bytes and rejecting by name, and the encoder of a well-formed instruction. -/

namespace Sys2Proof

open Sys2Proof.Machine

/-- Why bytes are no instruction (yet). -/
inductive DecodeError where
  /-- There is no byte. -/
  | empty
  /-- The operand or the frame is not whole yet. -/
  | truncated
  /-- The first byte on the wire is not STX (R131). -/
  | noStartMarker
  /-- The length bytes and their complements disagree (R73). -/
  | headerMismatch
  /-- A consistent header whose LEN is outside 2..1026 (R134). -/
  | lengthOutOfRange
  /-- The trailer is not the checksum of the body (R75). -/
  | checksumMismatch
  deriving DecidableEq, Repr

/-- What a decoder answers: an instruction with the bytes that follow it, or why there is none. -/
abbrev Decoded := Except DecodeError (Instr × List Byte)

/-- The command word of each operation (R83); a WIRE row starts with STX (R71). -/
def opcode : Instr → Byte
  | .rst => 0x00
  | .enc _ => 0x01
  | .rpt => 0x02
  | .raw _ => 0x03
  | .rxb _ => 0x04
  | .crc _ => 0x05
  | .setos => 0x06
  | .reserved cmd => cmd
  | .frame _ => Config.stx
  | .errframe => Config.stx

/-- Format B: one operand byte after the command word (R82). -/
def decodeFormatB (mk : Byte → Instr) : List Byte → Decoded
  | [] => .error .truncated
  | b :: rest => .ok (mk b, rest)

/-- Format S: the length, low byte first, then that many operand bytes (R82). -/
def decodeFormatS (mk : List Byte → Instr) : List Byte → Decoded
  | l :: h :: rest =>
    if (le16 l h).toNat ≤ rest.length then
      .ok (mk (rest.take (le16 l h).toNat), rest.drop (le16 l h).toNat)
    else .error .truncated
  | [] => .error .truncated
  | [_] => .error .truncated

/-- One operation on the command port (R83, R84). -/
def decodeCommand : List Byte → Decoded
  | [] => .error .empty
  | cmd :: rest =>
    match cmd.toNat with
    | 0 => .ok (.rst, rest)
    | 1 => decodeFormatS .enc rest
    | 2 => .ok (.rpt, rest)
    | 3 => decodeFormatS .raw rest
    | 4 => decodeFormatB .rxb rest
    | 5 => decodeFormatS .crc rest
    | 6 => .ok (.setos, rest)
    | _ => .ok (.reserved cmd, rest)

/-- The WIRE row of a payload: the error frame's payload has its own row (R79; log entry 5). -/
def wireInstr (p : List Byte) : Instr :=
  if p = errPayload then .errframe else .frame p

/-- The body and trailer of a frame whose header gave the length `n` (R70, R77, R78). -/
def decodeBody (c : CrcParams) (n : Nat) (rest : List Byte) : Decoded :=
  if n ≤ rest.length then
    if (rest.take n).drop (n - Config.crcLen) = trailer c (rest.take (n - Config.crcLen)) then
      .ok (wireInstr (rest.take (n - Config.crcLen)), rest.drop n)
    else .error .checksumMismatch
  else .error .truncated

/-- One whole frame on the wire-in stream, as R70 lays it out, with the tests of R133, R134 and R139 in that order. -/
def decodeWire (c : CrcParams) : List Byte → Decoded
  | [] => .error .empty
  | b :: rest =>
    if b = Config.stx then
      match rest with
      | h0 :: h1 :: h2 :: h3 :: tail =>
        if redundancyOk h0 h1 h2 h3 then
          if lengthOk (le16 h0 h1) then decodeBody c (le16 h0 h1).toNat tail
          else .error .lengthOutOfRange
        else .error .headerMismatch
      | _ => .error .truncated
    else .error .noStartMarker

/-- The decoder of a port. -/
def decode (c : CrcParams) : Port → List Byte → Decoded
  | .command, bytes => decodeCommand bytes
  | .wire, bytes => decodeWire c bytes

/-- The operand of format S, length first, low byte first (R82). -/
def encodeOperand (s : List Byte) : List Byte :=
  lo (BitVec.ofNat 16 s.length) :: hi (BitVec.ofNat 16 s.length) :: s

/-- The bytes of an instruction (R70, R79, R82, R83). -/
def encode (c : CrcParams) : Instr → List Byte
  | .rst => [opcode .rst]
  | .enc p => opcode (.enc p) :: encodeOperand p
  | .rpt => [opcode .rpt]
  | .raw s => opcode (.raw s) :: encodeOperand s
  | .rxb b => [opcode (.rxb b), b]
  | .crc s => opcode (.crc s) :: encodeOperand s
  | .setos => [opcode .setos]
  | .reserved cmd => [opcode (.reserved cmd)]
  | .frame p => frame c p false
  | .errframe => errFrame c false

/-- How many bytes an instruction takes on its port (R78, R82). -/
def Instr.size : Instr → Nat
  | .rst | .rpt | .setos | .reserved _ => 1
  | .rxb _ => 2
  | .enc p => p.length + 3
  | .raw s => s.length + 3
  | .crc s => s.length + 3
  | .frame p => p.length + Config.frameOverhead
  | .errframe => 8

/-- The first `n` bytes of a number, the least significant first. -/
def bytesOfNat : Nat → Nat → List Byte
  | 0, _ => []
  | n + 1, w => BitVec.ofNat 8 w :: bytesOfNat n (w / 256)

/-- The bytes of a table word: `nbits` bits, whole bytes, the first byte in bits 7..0. -/
def tableBytes (nbits w : Nat) : List Byte := bytesOfNat ((nbits + 7) / 8) w

/-- Operand bytes of zeros behind a command's bytes, enough for any length that bytes 1 and 2 give. -/
def zeroExtended (bytes : List Byte) : List Byte :=
  match bytes with
  | _ :: l :: h :: _ => bytes ++ List.replicate (le16 l h).toNat 0
  | [_, l] => bytes ++ List.replicate ((le16 l 0).toNat + 1) 0
  | _ => bytes ++ [0, 0]

/-- The port and the instruction of a table word: a word that is one whole wire frame is that frame, any other word is a
command with operand bytes of zeros behind it (log entry 13). -/
def tableInstr (c : CrcParams) (nbits w : Nat) : Except DecodeError Instr :=
  match decodeWire c (tableBytes nbits w) with
  | .ok (i, []) => .ok i
  | _ =>
    match decodeCommand (zeroExtended (tableBytes nbits w)) with
    | .ok (i, _) => .ok i
    | .error e => .error e

/-- What the decoder reads from a word of spec/opcode_table.json, under the default checksum parameters. -/
def decodeTableWord (nbits w : Nat) : Option Instr :=
  (tableInstr Config.crcDefault nbits w).toOption

end Sys2Proof
end

