-- ==== Sys2Proof/Machine/Fetch.lean ====
section
/-! DEFINITION. How the next thing to do is taken from the ports (20_memory.md R59, 41_decoder.md R143, 70_reset_and_hazards.md R240):
the inputs in the order in which the environment put them there (log entries 10 to 12). -/

namespace Sys2Proof.Machine

/-- What one step has to do. -/
inductive Fetched where
  /-- Two drivers at once (R64). -/
  | refuse
  /-- No operation: idle, a part of a command, the reset input, or the end of a call of `feed`. -/
  | quiet (s : State)
  /-- An operation from the command port. -/
  | run (i : Instr) (s : State)
  /-- An operation from a chunk being fed. -/
  | runFed (i : Instr) (s : State)

/-- What follows an instruction in the command port's bytes stays at the head of the inputs. -/
def requeue (more : List Byte) (rest : List Request) : List Request :=
  match more with
  | [] => rest
  | b :: bs => .command (b :: bs) :: rest

/-- The next operation of the command port: the bytes held there, then those that come in. Bytes that are no whole command are
held until more come in, and whatever else waits goes on: a chunk, the reset input. That a part of a command waits, that the
reset input leaves it, and that nothing waits behind it, is the model's choice (log entry 11). -/
def fetchCommand (bytes : List Byte) (rest : List Request) (s : State) : Fetched :=
  match decodeCommand (s.heldCommand ++ bytes) with
  | .ok (i, more) => .run i ((s.setHeld []).setInputs (requeue more rest))
  | .error _ => .quiet ((s.setHeld (s.heldCommand ++ bytes)).setInputs rest)

/-- The next operation of a chunk: a whole frame where the decoder is scanning and one stands there, else the RXB of one
byte (R131, R143; log entry 12). -/
def wireHead (st : DecState) (c : CrcParams) (b : Byte) (bs : List Byte) : Instr × List Byte :=
  match st with
  | .awaitingStart =>
    match decodeWire c (b :: bs) with
    | .ok (i, more) => (i, more)
    | .error _ => (.rxb b, bs)
  | .awaitingLength => (.rxb b, bs)
  | .receiving => (.rxb b, bs)

/-- What the ports hold next. -/
def fetch (s : State) : Fetched :=
  if s.contended then .refuse
  else
    match s.inputs with
    | [] => .quiet s
    | .resetLine :: rest => .quiet (s.setInputs rest).initialise
    | .command bytes :: rest => fetchCommand bytes rest s
    | .feed [] :: rest => .quiet (s.setInputs rest).returnFeed
    | .feed (b :: bs) :: rest =>
      .runFed (wireHead s.st s.crcParams b bs).1
        (s.setInputs (.feed (wireHead s.st s.crcParams b bs).2 :: rest))

/-- After an operation of a chunk: did one of its results, those from index `n` on, say `DELIVERED` (R143)? -/
def noteDelivery (n : Nat) (s : State) : State :=
  s.setFeedHit (s.feedHit || (s.results.drop n).any (fun r => decide (r.code = .delivered)))

/-- Where the next step finds a table word: a whole wire frame in a chunk, with the decoder scanning; any other word on the
command port, where nothing is held, with no byte after the instruction (log entry 13). -/
def storeWord (nbits w : Nat) (s : State) : State :=
  match tableInstr s.crcParams nbits w with
  | .ok i =>
    match i.port with
    | .wire => (s.setContended false).endFrame.setInputs (.feed (encode s.crcParams i) :: s.inputs)
    | .command => ((s.setContended false).setHeld []).setInputs (.command (encode s.crcParams i) :: s.inputs)
  | .error _ => ((s.setContended false).setHeld []).setInputs (.command (tableBytes nbits w) :: s.inputs)

end Sys2Proof.Machine
end

