-- ==== Sys2Proof/Machine/Step.lean ====
section
/-! DEFINITION. One step of the machine: the next operation at the ports runs to completion (20_memory.md R59). -/

namespace Sys2Proof.Machine

/-- One step. -/
def step (s : State) : Host.Outcome State Fault Refusal :=
  match fetch s with
  | .refuse => .refused .concurrentDrivers
  | .quiet t => .next t
  | .run i t => exec i t
  | .runFed i t => andThen (exec i t) fun u => .next (noteDelivery t.results.length u)

/-- `s` with a table word where the next step fetches its instruction (log entry 13). -/
def State.withFetchWord (s : State) (nbits w : Nat) : State := storeWord nbits w s

end Sys2Proof.Machine
end

