-- ==== Sys2Proof/Safety.lean ====
section
/-! DEFINITION. What the claims speak of: the invariants of 10_state.md R34, a handler that keeps to its contract (41_decoder.md R144),
and what an operation leaves alone (R32). -/

namespace Sys2Proof.Machine

/-! ### The invariants of R34 -/

/-- The invariants of R34 with the legal values of R32. Item 1 is the type `DecState`. Items 2 and 3 say of `RXBUF[0..CUR)` that
it holds the very bytes taken since the STX or since the header was accepted, item 4 of `TXBUF[0..TXLEN)` that it is the very
frame last sent: both since reset, because both records begin again there. So the reads that R130 and R106 make find bytes
that were written since reset, which is item 5 (NoFaultUnderTheInvariants). -/
structure Inv (s : State) : Prop where
  /-- RXBUF is in canonical form inside its 1030 bytes (R24, R58). -/
  rxWf : s.rxbuf.wf Config.rxCap = true
  /-- TXBUF is in canonical form inside its 1031 bytes (R25, R58). -/
  txWf : s.txbuf.wf Config.txCap = true
  /-- `CUR` is in 0..1026 (R32). -/
  curLegal : s.cur.toNat ≤ Config.maxLen
  /-- `EXP` is in 0..1026 (R32). -/
  expLegal : s.exp.toNat ≤ Config.maxLen
  /-- In `AwaitingStart` no frame is in progress. -/
  noFrame : s.st = .awaitingStart → s.frameBytes = []
  /-- Item 2: in `AwaitingLength` at most three header bytes have come in since the STX, and `RXBUF[0..CUR)` is they. -/
  headerPart : s.st = .awaitingLength → ∃ h, s.frameBytes = Config.stx :: h ∧ h.length ≤ 3 ∧ s.cur.toNat = h.length ∧
    s.rxbuf.readBytes 0 h.length = some h
  /-- Item 3: in `Receiving` the header of `EXP` was accepted, `2 ≤ EXP ≤ 1026`, fewer than `EXP` bytes have come in since, and
  `RXBUF[0..CUR)` is they. -/
  bodyPart : s.st = .receiving → ∃ n body, lengthOk n = true ∧ s.exp.toNat = n.toNat ∧
    s.frameBytes = Config.stx :: header n ++ body ∧ s.cur.toNat = body.length ∧ body.length < n.toNat ∧
    s.rxbuf.readBytes 0 body.length = some body
  /-- Item 4: nothing was sent since reset and the cache is empty, or the cache is the last frame that ENC or ERRF handed to the
  sink, a frame of R101. -/
  cache : (s.txlen = 0#11 ∧ s.lastFrame = none) ∨ ∃ p x, p.length ≤ Config.maxPayload ∧
    s.lastFrame = some (frame s.crcParams p x) ∧ s.txlen.toNat = p.length + Config.frameOverhead ∧
    s.txbuf.readBytes 0 s.txlen.toNat = some (frame s.crcParams p x) ∧ frame s.crcParams p x ∈ s.tx

/-! ### The handler's contract -/

/-- The operations that a handler may issue: those of the encoder side (R64, R144), and a reserved word (log entry 9). -/
def encoderSide : Instr → Bool
  | .enc _ | .rpt | .raw _ | .crc _ | .setos | .reserved _ => true
  | .rst | .rxb _ | .frame _ | .errframe => false

/-- The handler issues only operations that R144 allows it. -/
abbrev LawfulHandler (s : State) : Prop := ∀ ops ∈ s.handler, ∀ i ∈ ops, encoderSide i = true

/-! ### What an operation leaves alone -/

/-- The decoder's elements `ST`, `CUR`, `EXP`, `RXBUF` (R32) and the record of the frame in progress are the same. -/
structure SameDecoder (s t : State) : Prop where
  st    : t.st = s.st
  cur   : t.cur = s.cur
  exp   : t.exp = s.exp
  rxbuf : t.rxbuf = s.rxbuf
  frameBytes : t.frameBytes = s.frameBytes

/-- The encoder's elements `TXBUF`, `TXLEN`, `OS` are the same (R32). -/
structure SameEncoder (s t : State) : Prop where
  txbuf : t.txbuf = s.txbuf
  txlen : t.txlen = s.txlen
  os    : t.os = s.os

/-- `m'` is `m` with the byte `b` at index `i`, read byte by byte. -/
abbrev StoresAt (m m' : Memory) (i : Nat) (b : Byte) : Prop :=
  m'.readByte i = some b ∧ ∀ a, a ≠ i → m'.readByte a = m.readByte a

/-- `m'` is `m` with the bytes `bs` from index 0 on, read byte by byte. -/
abbrev StoresFromZero (m m' : Memory) (bs : List Byte) : Prop :=
  m'.readBytes 0 bs.length = some bs ∧ ∀ a, bs.length ≤ a → m'.readByte a = m.readByte a

/-- The state that R206 leaves after a receive error of a kind, when `m` is the cache afterwards: scanning again, the error
frame sent and cached, the flag consumed, nothing delivered, the kind as the result with the frame's `ASYM`. -/
def rejected (kind : ResultCode) (m : Memory) (s : State) : State :=
  { s with
    st := .awaitingStart
    txbuf := m
    txlen := 8#11
    os := false
    tx := s.tx ++ [errFrame s.crcParams s.os]
    frameBytes := []
    lastFrame := some (errFrame s.crcParams s.os)
    results := s.results ++ [OpResult.mkFlag kind s.os] }

/-- The results of `n` bytes that completed nothing (R142). -/
def quietResults (n : Nat) : List OpResult := List.replicate n (OpResult.plain .ok)

/-- The state in which `Deliver(p)` stands when the last byte of the frame of `p` has come in from `AwaitingStart` (R138): the
header bytes and then body and trailer went into RXBUF from index 0 (R56). -/
def received (p : List Byte) (s : State) : State :=
  { s with
    st := .awaitingStart
    cur := BitVec.ofNat 11 (p.length + Config.crcLen)
    exp := BitVec.ofNat 11 (p.length + Config.crcLen)
    rxbuf := (s.rxbuf.writeBytes 0 (header (advertisedLen p false))).writeBytes 0 (p ++ trailer s.crcParams p)
    frameBytes := []
    results := s.results ++ quietResults (p.length + 6) }

end Sys2Proof.Machine
end

