-- ==== Sys2Proof/Certificates/Slice0/Obligations.lean ====
section
/-! DEFINITION. The statements for the provers. Each docstring names the rules of spec/ that it formalises. -/

open Sys2Proof Sys2Proof.Machine

/-! ### The checksum generator (42_checksum.md) -/

/-- R174 (from general knowledge, 93_implementation_defined.md G2): for unreflected input the byte-wide table form equals the
bit-serial definition of R173, with the spec's table entries for the default polynomial. -/
def Obligations.CrcByteTableForm : Prop :=
  (∀ (c : CrcParams) (r : Word) (b : Byte), c.refin = false →
    crcByte c r b = (r <<< 8) ^^^ crcTable c ((r >>> 8).setWidth 8 ^^^ b)) ∧
  crcTable Config.crcDefault 0 = 0x0000 ∧ crcTable Config.crcDefault 1 = 0x1021 ∧
  crcTable Config.crcDefault 2 = 0x2042 ∧ crcTable Config.crcDefault 255 = 0x1EF0

/-- R180: the values of `crc16` under the default parameters, which are the spec's own choice (decision D4; log entry 1). -/
def Obligations.CrcValuesOfDefaultParameters : Prop :=
  crc16 Config.crcDefault [] = 0xFFFF ∧ crc16 Config.crcDefault [0xFF] = 0xFF00 ∧
  crc16 Config.crcDefault [0x01] = 0xF1D1 ∧ crc16 Config.crcDefault [0x01, 0x02, 0x03] = 0xADAD ∧
  crc16 Config.crcDefault [0x06] = 0x8136 ∧ crc16 Config.crcDefault [0x41] = 0xB915 ∧
  crc16 Config.crcDefault [0x10, 0x20] = 0x3A1E ∧ crc16 Config.crcDefault [0xAA] = 0xF550 ∧
  crc16 Config.crcDefault [0xBB] = 0xF740

/-- R176 (decision D5): the checksum of the empty sequence, for any parameters and for the default ones. -/
def Obligations.CrcOfEmptySequence : Prop :=
  (∀ c : CrcParams, crc16 c [] = (if c.refout then reflect16 c.init else c.init) ^^^ c.xorout) ∧
  crc16 Config.crcDefault [] = 0xFFFF

/-- R149, R179 (from general knowledge, 93_implementation_defined.md G3): with a polynomial whose constant term is 1, the
default one among them, two bodies that differ in one byte have different checksums. -/
def Obligations.CrcDetectsOneCorruptedByte : Prop :=
  (∀ (c : CrcParams) (pre suf : List Byte) (a b : Byte), c.poly.getLsbD 0 = true → a ≠ b →
    crc16 c (pre ++ a :: suf) ≠ crc16 c (pre ++ b :: suf)) ∧
  Config.crcDefault.poly.getLsbD 0 = true

/-! ### Frames (30_encoding.md, 40_encoder.md) -/

/-- R101, R109: every byte of an encoded frame: STX, LEN (`L + 2`, or `L + 3` under the flag) low byte first, its complements,
the payload, the checksum of the payload low byte first. -/
def Obligations.FramePropertiesOfTheEncoder : Prop :=
  ∀ (c : CrcParams) (p : List Byte) (x : Bool), p.length ≤ 1024 →
    (∃ n0 n1, (frame c p x)[1]? = some (cpl n0) ∧ (frame c p x)[3]? = some n0 ∧
      (frame c p x)[2]? = some (cpl n1) ∧ (frame c p x)[4]? = some n1 ∧
      (le16 (cpl n0) (cpl n1)).toNat = p.length + 2 + x.toNat ∧
      (le16 (cpl n0) (cpl n1)).toNat + 5 = (frame c p x).length + x.toNat) ∧
    (∃ c0 c1, (frame c p x)[p.length + 5]? = some c0 ∧ (frame c p x)[p.length + 6]? = some c1 ∧
      le16 c0 c1 = crc16 c (((frame c p x).drop 5).take p.length)) ∧
    (frame c p x)[0]? = some 0xF5 ∧ (frame c p x).length = p.length + 7 ∧
    ((frame c p x).drop 5).take p.length = p

/-- R79, R108: the bytes of the error frame, without and with the one-shot flag, and under the default parameters. -/
def Obligations.ErrorFrameLayout : Prop :=
  (∀ c : CrcParams, errFrame c false = [0xF5, 0x03, 0x00, 0xFC, 0xFF, 0xFF] ++ trailer c [0xFF]) ∧
  (∀ c : CrcParams, errFrame c true = [0xF5, 0x04, 0x00, 0xFB, 0xFF, 0xFF] ++ trailer c [0xFF]) ∧
  errFrame Config.crcDefault false = [0xF5, 0x03, 0x00, 0xFC, 0xFF, 0xFF, 0x00, 0xFF]

/-- R73, R133: the redundancy test is the test that the two 16-bit halves of the header add up to `0xFFFF`, and every LEN has
exactly one pair of redundancy bytes. -/
def Obligations.RedundancyTestIsXorTest : Prop :=
  (∀ h0 h1 h2 h3 : Byte, redundancyOk h0 h1 h2 h3 = true ↔ le16 h0 h1 ^^^ le16 h2 h3 = 0xFFFF) ∧
  (∀ h0 h1 : Byte, ∃ h2 h3, redundancyOk h0 h1 h2 h3 = true ∧
    ∀ k2 k3, redundancyOk h0 h1 k2 k3 = true → k2 = h2 ∧ k3 = h3)

/-! ### The encoder family (40_encoder.md) -/

/-- R102, R103 (with R100, R101, R104): ENC of a legal payload hands the frame to the sink as one transaction, stores it in
TXBUF from index 0 with `TXLEN = L + 7`, clears `OS`, returns `OK` with the old `OS` as `ASYM`, and changes nothing else
(`lastFrame` is the model's record of the frame sent, log entry 25). -/
def Obligations.EncSendsAndCachesFrame : Prop :=
  ∀ (p : List Byte) (s : State), p.length ≤ 1024 → ∃ m,
    exec (.enc p) s = .next
      { s with
        os := false
        txbuf := m
        txlen := BitVec.ofNat 11 (p.length + 7)
        tx := s.tx ++ [frame s.crcParams p s.os]
        lastFrame := some (frame s.crcParams p s.os)
        results := s.results ++ [OpResult.mkFlag .ok s.os] } ∧
    StoresFromZero s.txbuf m (frame s.crcParams p s.os) ∧
    (BitVec.ofNat 11 (p.length + 7)).toNat = p.length + 7

/-- R105, R204 (the spec's decision D12; log entry 24): ENC of more than 1024 bytes changes nothing, the cache and `OS`
neither, and returns `BufferOverflow` with `ASYM = 0`; 1024 bytes with `OS = 1` are accepted and sent with LEN 1027. -/
def Obligations.EncRefusesLongPayload : Prop :=
  (∀ (p : List Byte) (s : State), 1024 < p.length →
    exec (.enc p) s = .next { s with results := s.results ++ [OpResult.mkFlag .bufferOverflow false] }) ∧
  (∀ (p : List Byte) (s : State), p.length = 1024 → s.os = true →
    ∃ t, exec (.enc p) s = .next t ∧ t.tx = s.tx ++ [frame s.crcParams p true] ∧ (advertisedLen p true).toNat = 1027)

/-- R106 (decision D14; invariants R34): RPT with an empty cache does nothing but return `OK`; otherwise it sends the cached
bytes and changes nothing else. -/
def Obligations.RptResendsCache : Prop :=
  ∀ s : State, Inv s →
    (s.txlen = 0#11 → exec .rpt s = .next { s with results := s.results ++ [OpResult.plain .ok] }) ∧
    (s.txlen ≠ 0#11 → ∃ f, s.txbuf.readBytes 0 s.txlen.toNat = some f ∧
      exec .rpt s = .next { s with tx := s.tx ++ [f], results := s.results ++ [OpResult.plain .ok] })

/-- R104, R106: after ENC, RPT sends the frame as it was sent, the enlarged LEN of a one-shot frame included, with `ASYM = 0`,
and leaves cache and flag as ENC left them. -/
def Obligations.RptRepeatsTheFrameAsSent : Prop :=
  ∀ (p : List Byte) (s : State), p.length ≤ 1024 → ∃ t u,
    exec (.enc p) s = .next t ∧ exec .rpt t = .next u ∧
    u.tx = s.tx ++ [frame s.crcParams p s.os, frame s.crcParams p s.os] ∧
    u.results = s.results ++ [OpResult.mkFlag .ok s.os, OpResult.mkFlag .ok false] ∧
    u.os = false ∧ SameEncoder t u ∧ SameDecoder s u

/-- R107 (decision D13): RAW hands its bytes to the sink, whatever their number, and changes nothing else: no cache, no flag. -/
def Obligations.RawBypassesFraming : Prop :=
  ∀ (bytes : List Byte) (s : State),
    exec (.raw bytes) s = .next { s with tx := s.tx ++ [bytes], results := s.results ++ [OpResult.plain .ok] }

/-- R246 (decision D15): after a receive error RPT repeats the error frame. -/
def Obligations.RptAfterErrorRepeatsErrorFrame : Prop :=
  ∀ (b : Byte) (s t : State) (r : OpResult), exec (.rxb b) s = .next t → t.results = s.results ++ [r] →
    r.code = .headerRedundancyMismatch ∨ r.code = .lengthOutOfRange ∨ r.code = .checksumMismatch →
    ∃ u, exec .rpt t = .next u ∧
      u.tx = s.tx ++ [errFrame s.crcParams s.os, errFrame s.crcParams s.os] ∧ u.os = false

/-! ### The operations CRC, SETOS, RST and the reserved words -/

/-- R175 (decision D2): CRC returns the checksum of its operand as the value of an `OK` result and changes nothing else. -/
def Obligations.CrcReturnsChecksum : Prop :=
  ∀ (bytes : List Byte) (s : State),
    exec (.crc bytes) s = .next
      { s with
        results := s.results ++ [{ code := .ok, asym := false, value := some (crc16 s.crcParams bytes) }] }

/-- R191 (decision D10): SETOS sets the flag and changes nothing else; a second SETOS leaves it set; one ENC consumes it. -/
def Obligations.SetosSetsFlag : Prop :=
  (∀ s : State, exec .setos s = .next { s with os := true, results := s.results ++ [OpResult.plain .ok] }) ∧
  (∀ (s : State) (p : List Byte), p.length ≤ 1024 → ∃ t u v,
    exec .setos s = .next t ∧ exec .setos t = .next u ∧ exec (.enc p) u = .next v ∧ u.os = true ∧ v.os = false ∧
    v.tx = s.tx ++ [frame s.crcParams p true])

/-- R190 (decision D9): RST writes `ST`, `CUR`, `EXP`, `TXLEN`, `OS`, returns `OK`, and changes nothing else: neither buffer,
no history, no frame sent; the two records of log entry 25 begin again. -/
def Obligations.RstInitialises : Prop :=
  ∀ s : State, exec .rst s = .next
    { s with
      st := .awaitingStart
      cur := 0#11
      exp := 0#11
      txlen := 0#11
      os := false
      frameBytes := []
      lastFrame := none
      results := s.results ++ [OpResult.plain .ok] }

/-- R192, R205 (decision D2): a reserved command word changes no state, sends nothing and returns `IllegalCommand`. -/
def Obligations.ReservedWordHasNoEffect : Prop :=
  ∀ (cmd : Byte) (s : State), 7 ≤ cmd.toNat →
    exec (.reserved cmd) s = .next { s with results := s.results ++ [OpResult.plain .illegalCommand] }

/-! ### RXB (41_decoder.md) -/

/-- R131: in `AwaitingStart` a byte `0xF5` clears the cursor and moves to `AwaitingLength`, any other byte changes
nothing. -/
def Obligations.ScanningStopsAtStx : Prop :=
  (∀ (b : Byte) (s : State), s.st = .awaitingStart → b ≠ 0xF5 →
    exec (.rxb b) s = .next { s with results := s.results ++ [OpResult.plain .ok] }) ∧
  (∀ s : State, s.st = .awaitingStart →
    exec (.rxb 0xF5) s = .next
      { s with
        cur := 0#11
        st := .awaitingLength
        frameBytes := [0xF5]
        results := s.results ++ [OpResult.plain .ok] })

/-- R132: the first three header bytes are stored at the cursor and nothing else happens. -/
def Obligations.HeaderBytesAccumulate : Prop :=
  ∀ (b : Byte) (s : State), s.st = .awaitingLength → s.cur.toNat < 3 → ∃ m,
    exec (.rxb b) s = .next
      { s with
        rxbuf := m
        cur := s.cur + 1#11
        frameBytes := s.frameBytes ++ [b]
        results := s.results ++ [OpResult.plain .ok] } ∧
    (s.cur + 1#11).toNat = s.cur.toNat + 1 ∧ StoresAt s.rxbuf m s.cur.toNat b

/-- R135 (with R133, R134): a header that passes both tests is accepted on its fourth byte: `EXP <- LEN`, `CUR <- 0`, `ST <-
Receiving`, result `OK`, nothing sent. -/
def Obligations.HeaderAccepted : Prop :=
  ∀ (h0 h1 h2 h3 : Byte) (s : State), s.st = .awaitingLength → s.cur = 3#11 →
    s.rxbuf.readBytes 0 3 = some [h0, h1, h2] →
    h0 = cpl h2 → h1 = cpl h3 → 2 ≤ (le16 h0 h1).toNat → (le16 h0 h1).toNat ≤ 1026 → ∃ m n,
      exec (.rxb h3) s = .next
        { s with
          rxbuf := m
          exp := n
          cur := 0#11
          st := .receiving
          frameBytes := s.frameBytes ++ [h3]
          results := s.results ++ [OpResult.plain .ok] } ∧
      n.toNat = (le16 h0 h1).toNat ∧ StoresAt s.rxbuf m 3 h3

/-- R201 (reaction R206): on the fourth header byte a broken redundancy relation ends the frame: one error frame, nothing
delivered, `HeaderRedundancyMismatch`. Decisions of the spec: whatever LEN says (R209, D7), the error frame as a full ENC that
overwrites the cache and consumes `OS` (R108, D15), `CUR` kept at 4 (D19); log entries 23 and 24. -/
def Obligations.HeaderMismatchRejected : Prop :=
  ∀ (h0 h1 h2 h3 : Byte) (s : State), s.st = .awaitingLength → s.cur = 3#11 →
    s.rxbuf.readBytes 0 3 = some [h0, h1, h2] → h0 ≠ cpl h2 ∨ h1 ≠ cpl h3 → ∃ m mc,
      exec (.rxb h3) s = .next (rejected .headerRedundancyMismatch mc { s with rxbuf := m, cur := 4#11 }) ∧
      StoresAt s.rxbuf m 3 h3 ∧ StoresFromZero s.txbuf mc (errFrame s.crcParams s.os)

/-- R203 (reaction R206): a LEN outside 2..1026 in a consistent header ends the frame in the same way, with
`LengthOutOfRange`. Decisions of the spec: the range check (D7), the error frame as a full ENC (R108, D15), `CUR` kept at 4
(D19); log entries 23 and 24. -/
def Obligations.LengthOutOfRangeRejected : Prop :=
  ∀ (h0 h1 h2 h3 : Byte) (s : State), s.st = .awaitingLength → s.cur = 3#11 →
    s.rxbuf.readBytes 0 3 = some [h0, h1, h2] → h0 = cpl h2 → h1 = cpl h3 →
    (le16 h0 h1).toNat < 2 ∨ 1026 < (le16 h0 h1).toNat → ∃ m mc,
      exec (.rxb h3) s = .next (rejected .lengthOutOfRange mc { s with rxbuf := m, cur := 4#11 }) ∧
      StoresAt s.rxbuf m 3 h3 ∧ StoresFromZero s.txbuf mc (errFrame s.crcParams s.os)

/-- R137: in `Receiving` a byte that is not the last is stored at the cursor, inside RXBUF, and nothing else happens. -/
def Obligations.BodyBytesAccumulate : Prop :=
  ∀ (b : Byte) (s : State), s.st = .receiving → s.exp.toNat ≤ 1026 → s.cur.toNat + 1 < s.exp.toNat → ∃ m,
    exec (.rxb b) s = .next
      { s with
        rxbuf := m
        cur := s.cur + 1#11
        frameBytes := s.frameBytes ++ [b]
        results := s.results ++ [OpResult.plain .ok] } ∧
    (s.cur + 1#11).toNat = s.cur.toNat + 1 ∧ s.cur.toNat < 1030 ∧ StoresAt s.rxbuf m s.cur.toNat b

/-- R138 (decision D28), R139, R140: when the last byte of a frame comes in and the checksum of the body is the trailer, the
payload is delivered in a state whose `ST` is already `AwaitingStart`, and the result `DELIVERED` follows what the handler
did; with a handler that issues nothing, nothing is sent. -/
def Obligations.MatchingFrameIsDelivered : Prop :=
  ∀ (b : Byte) (s : State) (bs body : List Byte), s.st = .receiving → s.exp.toNat ≤ 1026 →
    s.cur.toNat + 1 = s.exp.toNat → s.rxbuf.readBytes 0 s.cur.toNat = some bs →
    bs ++ [b] = body ++ [lo (crc16 s.crcParams body), hi (crc16 s.crcParams body)] → ∃ m,
      StoresAt s.rxbuf m s.cur.toNat b ∧
      exec (.rxb b) s =
        andThen (deliver body { s with rxbuf := m, cur := s.exp, st := .awaitingStart, frameBytes := [] })
          (fun u => .next { u with results := u.results ++ [OpResult.plain .delivered] }) ∧
      (s.handler = [] → exec (.rxb b) s = .next
        { s with
          rxbuf := m
          cur := s.exp
          st := .awaitingStart
          frameBytes := []
          dlv := s.dlv ++ [body]
          results := s.results ++ [OpResult.plain .delivered] })

/-- R141, R202 (reaction R206): when the trailer is not the checksum of the body, one error frame is sent, nothing is
delivered, and the result is `ChecksumMismatch`. Decisions of the spec: the error frame as a full ENC that overwrites the
cache and consumes `OS` (R108, D15), `CUR` kept at `EXP` (D19); log entries 23 and 24. -/
def Obligations.MismatchedFrameIsRejected : Prop :=
  ∀ (b c0 c1 : Byte) (s : State) (bs body : List Byte), s.st = .receiving → s.exp.toNat ≤ 1026 →
    s.cur.toNat + 1 = s.exp.toNat → s.rxbuf.readBytes 0 s.cur.toNat = some bs →
    bs ++ [b] = body ++ [c0, c1] → crc16 s.crcParams body ≠ le16 c0 c1 → ∃ m mc,
      exec (.rxb b) s = .next (rejected .checksumMismatch mc { s with rxbuf := m, cur := s.exp }) ∧
      StoresAt s.rxbuf m s.cur.toNat b ∧ StoresFromZero s.txbuf mc (errFrame s.crcParams s.os)

/-- R130, R142 (under the invariants and a handler that keeps to its contract): RXB answers a next state, and its result is
one of five kinds, `DELIVERED` when and only when a payload was delivered; then the bytes received since the decoder was last
in `AwaitingStart` are exactly the frame of that payload (R151). -/
def Obligations.RxbAlwaysCompletes : Prop :=
  ∀ (b : Byte) (s : State), Inv s → LawfulHandler s → ∃ t r,
    exec (.rxb b) s = .next t ∧ t.results = s.results ++ [r] ∧
    (r.code = .ok ∨ r.code = .delivered ∨ r.code = .headerRedundancyMismatch ∨ r.code = .lengthOutOfRange ∨
      r.code = .checksumMismatch) ∧
    (r.code = .delivered → ∃ p, t.dlv = s.dlv ++ [p] ∧ p.length + 2 = s.exp.toNat ∧
      s.frameBytes ++ [b] = frame s.crcParams p false) ∧
    (r.code ≠ .delivered → t.dlv = s.dlv)

/-! ### The handler (R64, R144) -/

/-- R144, R85: a delivery puts the payload in the history and then runs the handler's next answer, once, its operations in
order; with no answer left nothing is issued (the answers as a list: log entry 6). An encoder-side operation of the handler
has the effect it has as a host operation, but for its result, which goes to the handler (log entry 21). That a reserved word
is among them is the model's reading (log entry 9): R144 and R64 do not name it. -/
def Obligations.HandlerOperationsRunByTheirOwnRules : Prop :=
  (∀ (p : List Byte) (s : State), s.handler = [] → deliver p s = .next { s with dlv := s.dlv ++ [p] }) ∧
  (∀ (p : List Byte) (s : State) (ops : List Instr) (rest : List (List Instr)), s.handler = ops :: rest →
    deliver p s = runHandler ops { s with dlv := s.dlv ++ [p], handler := rest }) ∧
  (∀ s : State, runHandler [] s = .next s) ∧
  (∀ (i : Instr) (rest : List Instr) (s t : State), encoderSide i = true → exec i s = .next t → ∃ r,
    t.results = s.results ++ [r] ∧
    runHandler (i :: rest) s =
      runHandler rest { t with results := s.results, handlerResults := s.handlerResults ++ [r] })

/-- R64, R144, R220 (decision D17): a handler that issues RXB, a feed or RST after operations that it may issue is refused. -/
def Obligations.NestedOperationIsRefused : Prop :=
  ∀ (p : List Byte) (s : State) (before after : List Instr) (i : Instr) (rest : List (List Instr)),
    Inv s → s.handler = (before ++ i :: after) :: rest → (∀ j ∈ before, encoderSide j = true) →
    encoderSide i = false → deliver p s = .refused .nestedOperation

/-! ### Encoder and decoder side by side (R254) -/

/-- R32, R254: the encoder-side operations write no decoder element and deliver nothing. -/
def Obligations.EncoderSideLeavesDecoderAlone : Prop :=
  ∀ (i : Instr) (s t : State), encoderSide i = true → exec i s = .next t →
    SameDecoder s t ∧ t.dlv = s.dlv ∧ t.handler = s.handler ∧ t.handlerResults = s.handlerResults ∧
    t.inputs = s.inputs ∧ t.heldCommand = s.heldCommand ∧ t.feedHit = s.feedHit ∧ t.feedReturns = s.feedReturns

/-- R254: what an encoder-side operation sends, returns and leaves in the encoder does not depend on the decoder or on any
history. -/
def Obligations.EncoderIgnoresDecoderState : Prop :=
  ∀ (i : Instr) (s s' t : State), encoderSide i = true → SameEncoder s s' → s'.crcParams = s.crcParams →
    exec i s = .next t → ∃ t' sent r,
      exec i s' = .next t' ∧ SameEncoder t t' ∧ t.tx = s.tx ++ sent ∧ t'.tx = s'.tx ++ sent ∧
      t.results = s.results ++ [r] ∧ t'.results = s'.results ++ [r]

/-- R254, R32: an RXB that returns `OK`, or delivers to a handler that issues nothing, touches no encoder element and sends
nothing. -/
def Obligations.RxbTouchesEncoderOnlyOnErrors : Prop :=
  ∀ (b : Byte) (s t : State) (r : OpResult), exec (.rxb b) s = .next t → t.results = s.results ++ [r] →
    r.code = .ok ∨ (r.code = .delivered ∧ s.handler.headD [] = []) →
    SameEncoder s t ∧ t.tx = s.tx ∧ t.lastFrame = s.lastFrame

/-- R85: every command-port operation returns one result, and its `ASYM` bit is set when and only when the operation itself
encoded a frame with `OS` set: a successful ENC, or an RXB that sent an error frame. -/
def Obligations.AsymReportsOneShotFrames : Prop :=
  ∀ (i : Instr) (s t : State), i.port = .command → exec i s = .next t → ∃ r,
    t.results = s.results ++ [r] ∧
    (r.asym = true ↔ s.os = true ∧
      ((∃ p, i = .enc p ∧ p.length ≤ 1024) ∨ r.code = .headerRedundancyMismatch ∨ r.code = .lengthOutOfRange ∨
        r.code = .checksumMismatch))

/-- R249 ("A system that never issues SETOS never meets it"): with `OS` clear, an operation other than SETOS, under a handler
that never issues SETOS, leaves `OS` clear and reports no `ASYM`. -/
def Obligations.OneShotNeedsSetos : Prop :=
  ∀ (i : Instr) (s t : State), s.os = false → i ≠ .setos → (∀ ops ∈ s.handler, Instr.setos ∉ ops) →
    exec i s = .next t →
    t.os = false ∧ (∀ r ∈ t.results.drop s.results.length, r.asym = false) ∧
    (∀ r ∈ t.handlerResults.drop s.handlerResults.length, r.asym = false)

/-- R26: no operation but RST empties the cache. -/
def Obligations.CacheEmptiedOnlyByReset : Prop :=
  ∀ (i : Instr) (s t : State), exec i s = .next t → t.txlen = 0#11 → s.txlen = 0#11 ∨ i = .rst

/-- R85, R200 (decision D3): the result byte: the code in bits 2..0, zeros in bits 6..3, `ASYM` in bit 7; the codes are 0 to
6. -/
def Obligations.ResultByteLayout : Prop :=
  (∀ r : OpResult, r.byte.extractLsb' 0 3 = r.code.code ∧ r.byte.extractLsb' 3 4 = 0 ∧ r.byte.getLsbD 7 = r.asym) ∧
  (OpResult.plain .ok).byte = 0x00 ∧ (OpResult.plain .delivered).byte = 0x01 ∧
  (OpResult.plain .headerRedundancyMismatch).byte = 0x02 ∧ (OpResult.plain .checksumMismatch).byte = 0x03 ∧
  (OpResult.plain .lengthOutOfRange).byte = 0x04 ∧ (OpResult.plain .bufferOverflow).byte = 0x05 ∧
  (OpResult.plain .illegalCommand).byte = 0x06 ∧ (OpResult.mkFlag .ok true).byte = 0x80

/-! ### Streams of bytes (R143 to R151) -/

/-- R111: a decoder in `AwaitingStart` that receives the bytes of `frame(P, 0)` invokes the handler once, with `P`, on the last
byte; every earlier byte returns `OK`. With a handler that issues nothing it sends nothing and is in `AwaitingStart` again. -/
def Obligations.FrameIsDelivered : Prop :=
  ∀ (p : List Byte) (s : State), s.st = .awaitingStart → p.length ≤ 1024 →
    exec (.frame p) s = feedBytes (frame s.crcParams p false) s ∧
    exec (.frame p) s =
      andThen (deliver p (received p s)) (fun u => .next { u with results := u.results ++ [OpResult.plain .delivered] }) ∧
    (s.handler = [] → exec (.frame p) s = .next
      { received p s with
        dlv := s.dlv ++ [p]
        results := s.results ++ quietResults (p.length + 6) ++ [OpResult.plain .delivered] })

/-- R212, R81 (decision D27): a received error frame is a payload like any other. -/
def Obligations.ErrorFrameReceivedIsAPayload : Prop :=
  ∀ s : State, s.st = .awaitingStart →
    exec .errframe s =
      andThen (deliver [0xFF] (received [0xFF] s)) (fun u => .next { u with results := u.results ++ [OpResult.plain .delivered] }) ∧
    (s.handler = [] → ∃ t, exec .errframe s = .next t ∧ t.dlv = s.dlv ++ [[0xFF]] ∧ t.tx = s.tx ∧
      t.st = .awaitingStart ∧ SameEncoder s t)

/-- R217, R111: two instances with the same checksum parameters: what ENC on one hands to the sink, fed to the other, is
delivered there. -/
def Obligations.EncodedPayloadArrivesAtThePeer : Prop :=
  ∀ (p : List Byte) (a b : State), p.length ≤ 1024 → a.os = false → b.st = .awaitingStart → b.handler = [] →
    b.crcParams = a.crcParams → ∃ a' b' f,
      exec (.enc p) a = .next a' ∧ a'.tx = a.tx ++ [f] ∧ feedBytes f b = .next b' ∧
      b'.dlv = b.dlv ++ [p] ∧ b'.tx = b.tx ∧ b'.st = .awaitingStart

/-- R131, R150: bytes without `0xF5` that come before a frame are discarded, each with result `OK`, and the frame is decoded as
if they had not come. -/
def Obligations.GarbageBeforeAFrameIsIgnored : Prop :=
  ∀ (garbage bytes : List Byte) (s : State), s.st = .awaitingStart → (∀ b ∈ garbage, b ≠ 0xF5) →
    feedBytes (garbage ++ bytes) s = feedBytes bytes { s with results := s.results ++ quietResults garbage.length }

/-- R65, R148 (how a step takes a chunk is the model's choice, log entry 12): two chunks fed one after another, and their
bytes fed as one chunk, run to states that are equal in everything but the return values of `feed`: one value for each call,
and that of the one call is the OR of those of the two (R143). -/
def Obligations.ChunkingMakesNoDifference : Prop :=
  ∀ (as bs : List Byte) (rest : List Request) (s : State), Inv s → LawfulHandler s → s.contended = false →
    ∃ (j k : Nat) (t : State) (ra rb : Bool),
      core.run j (s.setInputs (.feed as :: .feed bs :: rest)) =
        .next { t with feedReturns := s.feedReturns ++ [ra, rb] } ∧
      core.run k (s.setInputs (.feed (as ++ bs) :: rest)) =
        .next { t with feedReturns := s.feedReturns ++ [ra || rb] } ∧
      t.inputs = rest

/-- R149, R141: a frame whose two trailer bytes are not the checksum of its body, received from `AwaitingStart`, is not
delivered and causes exactly one error frame, on its last byte. That the error frame goes to the cache and consumes `OS` is
the spec's decision D15 (R108; log entry 24). -/
def Obligations.CorruptedFrameCausesOneErrorFrame : Prop :=
  ∀ (p : List Byte) (c0 c1 : Byte) (s : State), s.st = .awaitingStart → p.length ≤ 1024 →
    le16 c0 c1 ≠ crc16 s.crcParams p → ∃ t,
      feedBytes (0xF5 :: header (advertisedLen p false) ++ p ++ [c0, c1]) s = .next t ∧
      t.st = .awaitingStart ∧ t.tx = s.tx ++ [errFrame s.crcParams s.os] ∧ t.dlv = s.dlv ∧
      t.handler = s.handler ∧ t.os = false ∧ t.txlen = 8#11 ∧
      t.txbuf.readBytes 0 8 = some (errFrame s.crcParams s.os) ∧
      t.results = s.results ++ quietResults (p.length + 6) ++ [OpResult.mkFlag .checksumMismatch s.os]

/-- R249, R80: the receiver of a one-shot frame takes all its bytes and waits in `Receiving` for one more; that byte completes
it, the checksum is taken over the payload and CRC_LO, and unless it happens to match, the frame is rejected. A one-shot frame
of the largest payload is already rejected at its header, LEN 1027 being out of range (R134, the spec's decision D7; log entry
24). -/
def Obligations.OneShotFrameDesynchronisesReceiver : Prop :=
  (∀ (p : List Byte) (s : State), s.st = .awaitingStart → p.length ≤ 1023 → ∃ t,
    feedBytes (frame s.crcParams p true) s = .next t ∧
    t.st = .receiving ∧ t.exp.toNat = p.length + 3 ∧ t.cur.toNat = p.length + 2 ∧
    t.tx = s.tx ∧ t.dlv = s.dlv ∧ t.results = s.results ++ quietResults (p.length + 7) ∧ SameEncoder s t ∧
    ∀ b : Byte, crc16 s.crcParams (p ++ [lo (crc16 s.crcParams p)]) ≠ le16 (hi (crc16 s.crcParams p)) b → ∃ u,
      exec (.rxb b) t = .next u ∧ u.st = .awaitingStart ∧ u.dlv = s.dlv ∧
      u.tx = s.tx ++ [errFrame s.crcParams s.os] ∧
      u.results = t.results ++ [OpResult.mkFlag .checksumMismatch s.os]) ∧
  (∀ (p : List Byte) (s : State), s.st = .awaitingStart → p.length = 1024 → ∃ t,
    feedBytes ((frame s.crcParams p true).take 5) s = .next t ∧ t.st = .awaitingStart ∧
    t.tx = s.tx ++ [errFrame s.crcParams s.os] ∧
    t.results = s.results ++ quietResults 4 ++ [OpResult.mkFlag .lengthOutOfRange s.os])

/-- R146, R250: in `Receiving` the decoder waits for its count of bytes, whatever they are. -/
def Obligations.StalledFrameHoldsTheDecoder : Prop :=
  ∀ (bytes : List Byte) (s : State), s.st = .receiving → s.exp.toNat ≤ 1026 →
    s.cur.toNat + bytes.length < s.exp.toNat → ∃ t,
      feedBytes bytes s = .next t ∧ t.st = .receiving ∧ t.exp = s.exp ∧
      t.cur.toNat = s.cur.toNat + bytes.length ∧ t.tx = s.tx ∧ t.dlv = s.dlv ∧ SameEncoder s t ∧
      t.results = s.results ++ quietResults bytes.length

/-- R151: whenever a payload `p` is delivered, the bytes received since the decoder was last in `AwaitingStart` are exactly
`frame(p, 0)`. -/
def Obligations.DeliveredMeansTheFrameWasReceived : Prop :=
  ∀ (bytes : List Byte) (b : Byte) (s t u : State) (p : List Byte), s.st = .awaitingStart →
    (∀ k v, 1 ≤ k → k ≤ bytes.length → feedBytes (bytes.take k) s = .next v → v.st ≠ .awaitingStart) →
    feedBytes bytes s = .next t → exec (.rxb b) t = .next u → u.dlv = t.dlv ++ [p] →
    bytes ++ [b] = frame s.crcParams p false ∧ p.length ≤ 1024

/-- R143 (decision D16; how a step takes a chunk is the model's choice, log entry 12): a chunk that is fed is processed whole,
and the call then returns whether one of its bytes completed a frame. -/
def Obligations.FeedProcessesTheWholeChunk : Prop :=
  ∀ (chunk : List Byte) (rest : List Request) (s u : State), s.contended = false → s.feedHit = false →
    s.inputs = .feed chunk :: rest → feedBytes chunk { s with inputs := rest } = .next u → ∃ k,
      core.run k s = .next
        { u with
          feedReturns := s.feedReturns ++
            [(u.results.drop s.results.length).any (fun r => decide (r.code = .delivered))]
          feedHit := false }

/-! ### Encodings (30_encoding.md) -/

/-- R70, R79, R82, R83, R84: decoding the bytes of a well-formed instruction, on its port and with any bytes behind it, gives
the instruction back and leaves the bytes behind it. -/
def Obligations.DecodeOfEncodeIsTheInstruction : Prop :=
  ∀ (c : CrcParams) (i : Instr) (rest : List Byte), i.wf = true →
    decode c i.port (encode c i ++ rest) = .ok (i, rest)

/-- R70, R79, R82, R83, R84: whatever a port's decoder reads is a well-formed instruction of that port, and the bytes read are
its encoding. -/
def Obligations.DecodedBytesAreTheEncoding : Prop :=
  ∀ (c : CrcParams) (port : Port) (bytes rest : List Byte) (i : Instr), decode c port bytes = .ok (i, rest) →
    i.wf = true ∧ i.port = port ∧ bytes = encode c i ++ rest

/-- R83, R90, R70, R79 and the table of 95_test_vectors.md 2.5: words written out from the spec decode to what they stand for.
The trailers of the two wire words are checksums under the default parameters, the spec's decision D4 (log entry 1); that the
error frame has a term of its own is log entry 5. -/
def Obligations.WordsOfTheSpecDecode : Prop :=
  decodeCommand [0x00] = .ok (.rst, []) ∧ decodeCommand [0x01, 0x00, 0x00] = .ok (.enc [], []) ∧
  decodeCommand [0x01, 0x03, 0x00, 0x01, 0x02, 0x03] = .ok (.enc [0x01, 0x02, 0x03], []) ∧
  decodeCommand [0x02] = .ok (.rpt, []) ∧
  decodeCommand [0x03, 0x02, 0x00, 0xDE, 0xAD] = .ok (.raw [0xDE, 0xAD], []) ∧
  decodeCommand [0x04, 0xF5, 0x04, 0x05] = .ok (.rxb 0xF5, [0x04, 0x05]) ∧
  decodeCommand [0x05, 0x02, 0x00, 0x31, 0x32] = .ok (.crc [0x31, 0x32], []) ∧
  decodeCommand [0x06, 0x01, 0x01, 0x00, 0xAA] = .ok (.setos, [0x01, 0x01, 0x00, 0xAA]) ∧
  decodeCommand [0x80] = .ok (.reserved 0x80, []) ∧
  decodeWire Config.crcDefault [0xF5, 0x05, 0x00, 0xFA, 0xFF, 0x01, 0x02, 0x03, 0xAD, 0xAD] =
    .ok (.frame [0x01, 0x02, 0x03], []) ∧
  decodeWire Config.crcDefault [0xF5, 0x03, 0x00, 0xFC, 0xFF, 0xFF, 0x00, 0xFF] = .ok (.errframe, [])

/-- R84 (decision D2): the reserved command words are `0x07` and those with a bit of `cmd[7:3]` set, and each decodes to
itself, taking no operand; the other words are the seven operations'. -/
def Obligations.ReservedWordsDecodeToThemselves : Prop :=
  (∀ cmd : Byte, isReserved cmd ↔ cmd = 0x07 ∨ cmd.extractLsb' 3 5 ≠ 0) ∧
  (∀ (cmd : Byte) (rest : List Byte), isReserved cmd → decodeCommand (cmd :: rest) = .ok (.reserved cmd, rest)) ∧
  (∀ (cmd : Byte) (rest more : List Byte) (i : Instr), ¬ isReserved cmd → decodeCommand (cmd :: rest) = .ok (i, more) →
    ∀ w, i ≠ .reserved w)

/-! ### The whole machine -/

/-- R36, R240 (decisions D8, D22; log entries 2 and 7): ST, CUR, EXP, TXLEN and OS after reset, and the empty histories TX and
DLV. R36 leaves the contents of RXBUF and TXBUF unspecified; that no byte of them has a value until it is written is the
model's choice within R34 item 5 (log entry 3, DESIGN CHOICE). -/
def Obligations.ResetState : Prop :=
  State.reset.st = .awaitingStart ∧ State.reset.cur = 0#11 ∧ State.reset.exp = 0#11 ∧ State.reset.txlen = 0#11 ∧
  State.reset.os = false ∧ State.reset.tx = [] ∧ State.reset.dlv = [] ∧
  (∀ i, State.reset.rxbuf.readByte i = none) ∧ (∀ i, State.reset.txbuf.readByte i = none)

/-- R34: the invariants hold after reset. -/
def Obligations.ResetSatisfiesTheInvariants : Prop := Inv State.reset

/-- R34: every step keeps the invariants, items 1 to 4 as R34 has them (the records `frameBytes` and `lastFrame` that items 2
to 4 speak of: log entry 25). -/
def Obligations.StepKeepsTheInvariants : Prop :=
  ∀ s t : State, Inv s → step s = .next t → Inv t

/-- R34 item 5, R58: under the invariants no step reads an unwritten byte or leaves a buffer (that such a read is a fault is
the model's choice, log entry 3). -/
def Obligations.NoFaultUnderTheInvariants : Prop :=
  ∀ (s : State) (f : Fault), Inv s → step s ≠ .fault f

/-- R34, R66, R210, R220: from a state with the invariants, one driver and a handler that keeps to its contract, every run of
every length completes, and the invariants hold at its end: any input is absorbed. -/
def Obligations.LawfulRunsNeverStop : Prop :=
  ∀ (n : Nat) (s : State), Inv s → LawfulHandler s → s.contended = false → ∃ t : State,
    core.run n s = .next t ∧ Inv t ∧ LawfulHandler t ∧ t.contended = false

/-- R130, R143, R220 ("complete every operation"): under the invariants and a handler that keeps to its contract, every
instruction answers a next state, in which both hold again. -/
def Obligations.EveryInstructionCompletes : Prop :=
  ∀ (i : Instr) (s : State), Inv s → LawfulHandler s → ∃ t,
    exec i s = .next t ∧ Inv t ∧ LawfulHandler t ∧ ∃ rs, t.results = s.results ++ rs ∧ 0 < rs.length

/-- R59, R83, R84: a step whose next input is bytes on the command port runs the instruction that these bytes decode to,
behind those held there, and takes its bytes from the port. Bytes that are no whole command are held, and what waits behind
them goes on. The queue and the held bytes are the model's choice (log entries 10 and 11). -/
def Obligations.StepRunsTheCommandDecoded : Prop :=
  (∀ (s : State) (bytes more : List Byte) (rest : List Request) (i : Instr), s.contended = false →
    s.inputs = .command bytes :: rest → decodeCommand (s.heldCommand ++ bytes) = .ok (i, more) →
    step s = exec i
      { s with
        heldCommand := []
        inputs := if more = [] then rest else .command more :: rest }) ∧
  (∀ (s : State) (bytes : List Byte) (rest : List Request) (e : DecodeError), s.contended = false →
    s.inputs = .command bytes :: rest → decodeCommand (s.heldCommand ++ bytes) = .error e →
    step s = .next { s with heldCommand := s.heldCommand ++ bytes, inputs := rest })

/-- R143, R131 (how a step takes a chunk is the model's choice, log entry 12): a step whose next input is a chunk being fed
runs the frame that stands at its front while the decoder is scanning, else RXB of its first byte; then it notes whether a
frame was delivered. -/
def Obligations.StepRunsTheChunkFed : Prop :=
  (∀ (s : State) (bytes more : List Byte) (rest : List Request) (i : Instr), s.contended = false →
    s.inputs = .feed bytes :: rest → s.st = .awaitingStart → decodeWire s.crcParams bytes = .ok (i, more) →
    step s = andThen (exec i { s with inputs := .feed more :: rest })
      (fun u => .next (noteDelivery s.results.length u))) ∧
  (∀ (s : State) (b : Byte) (bs : List Byte) (rest : List Request), s.contended = false →
    s.inputs = .feed (b :: bs) :: rest →
    (s.st ≠ .awaitingStart ∨ ∃ e, decodeWire s.crcParams (b :: bs) = .error e) →
    step s = andThen (exec (.rxb b) { s with inputs := .feed bs :: rest })
      (fun u => .next (noteDelivery s.results.length u)))

/-- R219, R240, R190, R64: an idle machine stays as it is; the reset input makes the five writes of RST, whatever was going
on; two drivers at once have no meaning. The model's choices: the queue and the flag of a second driver (log entries 8 and
10), and that the reset input records no result and leaves histories, buffers, ports and handler as they are (entry 17). -/
def Obligations.StepWithoutAnOperation : Prop :=
  (∀ s : State, s.contended = false → s.inputs = [] → step s = .next s) ∧
  (∀ (s : State) (rest : List Request), s.contended = false → s.inputs = .resetLine :: rest →
    step s = .next
      { s with
        inputs := rest
        st := .awaitingStart
        cur := 0#11
        exp := 0#11
        txlen := 0#11
        os := false
        frameBytes := []
        lastFrame := none }) ∧
  (∀ s : State, s.contended = true → step s = .refused .concurrentDrivers)

/-- R193 (decision D30): no step changes the checksum parameters. -/
def Obligations.ChecksumParametersNeverChange : Prop :=
  ∀ s t : State, step s = .next t → t.crcParams = s.crcParams

/-- R33, R55, R190: no step takes back a transaction, a delivery or a result. -/
def Obligations.HistoriesOnlyGrow : Prop :=
  ∀ s t : State, step s = .next t →
    (∃ x, t.tx = s.tx ++ x) ∧ (∃ x, t.dlv = s.dlv ++ x) ∧ (∃ x, t.results = s.results ++ x) ∧
    (∃ x, t.handlerResults = s.handlerResults ++ x) ∧ (∃ x, t.feedReturns = s.feedReturns ++ x)
end

