-- ==== Sys2Proof/Laws/Operands.lean ====
section
/-! SUPPORT. The small laws of the byte-order primitives, the header, the trailer, the frame function and the generator. -/

namespace Sys2Proof.Machine

/-! ### Byte order (00_scope.md R11) -/

theorem toNat_le16 (a b : Byte) : (le16 a b).toNat = a.toNat + 256 * b.toNat := by
  simp only [le16, BitVec.toNat_append]
  have := a.isLt
  rw [← Nat.shiftLeft_add_eq_or_of_lt this, Nat.shiftLeft_eq]
  omega

theorem toNat_lo (v : Word) : (lo v).toNat = v.toNat % 256 := by simp [lo]

theorem toNat_hi (v : Word) : (hi v).toNat = v.toNat / 256 := by
  have := v.isLt
  simp only [hi, BitVec.toNat_setWidth, BitVec.toNat_ushiftRight, Nat.shiftRight_eq_div_pow]
  omega

@[simp] theorem le16_lo_hi (v : Word) : le16 (lo v) (hi v) = v := by
  apply BitVec.eq_of_toNat_eq
  rw [toNat_le16, toNat_lo, toNat_hi]
  omega

@[simp] theorem lo_le16 (a b : Byte) : lo (le16 a b) = a := by
  apply BitVec.eq_of_toNat_eq
  have := a.isLt
  rw [toNat_lo, toNat_le16]
  omega

@[simp] theorem hi_le16 (a b : Byte) : hi (le16 a b) = b := by
  apply BitVec.eq_of_toNat_eq
  have := a.isLt
  rw [toNat_hi, toNat_le16]
  omega

@[simp] theorem cpl_cpl (a : Byte) : cpl (cpl a) = a := by simp [cpl]

theorem cpl_ne_self (a : Byte) : cpl a ≠ a := by
  intro h
  have := congrArg (fun x : Byte => x.getLsbD 0) h
  simp [cpl] at this

/-! ### The header and its two tests (41_decoder.md R133, R134) -/

@[simp] theorem redundancyOk_header (n : Word) : redundancyOk (lo n) (hi n) (cpl (lo n)) (cpl (hi n)) = true := by
  simp [redundancyOk]

theorem redundancyOk_iff (h0 h1 h2 h3 : Byte) : redundancyOk h0 h1 h2 h3 = true ↔ h0 = cpl h2 ∧ h1 = cpl h3 := by
  simp [redundancyOk]

theorem lengthOk_iff (n : Word) : lengthOk n = true ↔ 2 ≤ n.toNat ∧ n.toNat ≤ 1026 := by
  simp [lengthOk]

/-- A header that passes the redundancy test is the header of its LEN. -/
theorem header_of_redundancyOk {h0 h1 h2 h3 : Byte} (h : redundancyOk h0 h1 h2 h3 = true) :
    [h0, h1, h2, h3] = header (le16 h0 h1) := by
  obtain ⟨rfl, rfl⟩ := (redundancyOk_iff _ _ _ _).1 h
  simp [header]

@[simp] theorem length_header (n : Word) : (header n).length = 4 := rfl

/-! ### The frame (40_encoder.md R101) -/

theorem toNat_advertisedLen {p : List Byte} (x : Bool) (h : p.length ≤ 1024) :
    (advertisedLen p x).toNat = p.length + 2 + x.toNat := by
  have : x.toNat ≤ 1 := by cases x <;> decide
  simp only [advertisedLen, Config.crcLen, BitVec.toNat_ofNat]
  omega

theorem lengthOk_advertisedLen {p : List Byte} (h : p.length ≤ 1024) : lengthOk (advertisedLen p false) = true := by
  rw [lengthOk_iff, toNat_advertisedLen false h]
  simp only [Bool.toNat_false]
  omega

@[simp] theorem length_trailer (c : CrcParams) (p : List Byte) : (trailer c p).length = 2 := rfl

@[simp] theorem length_frame (c : CrcParams) (p : List Byte) (x : Bool) : (frame c p x).length = p.length + 7 := by
  simp [frame]
  omega

@[simp] theorem length_errFrame (c : CrcParams) (x : Bool) : (errFrame c x).length = 8 := by
  simp [errFrame, errPayload]

/-! ### The generator (42_checksum.md R171, R173) -/

@[simp] theorem crcr_nil (c : CrcParams) : crcr c [] = c.init := rfl

@[simp] theorem crcr_append (c : CrcParams) (s t : List Byte) : crcr c (s ++ t) = t.foldl (crcByte c) (crcr c s) := by
  simp [crcr]

/-- The clocks of the shift register, split in two runs. -/
theorem crcBits_add (poly r : Word) (m n : Nat) : crcBits poly (m + n) r = crcBits poly n (crcBits poly m r) := by
  induction m generalizing r with
  | zero => simp [crcBits]
  | succ m ih => simp [crcBits, Nat.succ_add, ih]

/-- A clock of the shift register is linear: the sum of two registers goes to the sum of their successors. -/
theorem crcBit_xor (poly a b : Word) : crcBit poly (a ^^^ b) = crcBit poly a ^^^ crcBit poly b := by
  unfold crcBit
  rw [BitVec.msb_xor]
  have h : poly ^^^ poly = 0 := BitVec.xor_self
  cases a.msb <;> cases b.msb <;> simp [BitVec.shiftLeft_xor_distrib]
  · ac_rfl
  · ac_rfl
  · rw [show a <<< 1 ^^^ poly ^^^ (b <<< 1 ^^^ poly) = a <<< 1 ^^^ b <<< 1 ^^^ (poly ^^^ poly) by ac_rfl, h]
    simp

theorem crcBits_xor (poly a b : Word) (n : Nat) :
    crcBits poly n (a ^^^ b) = crcBits poly n a ^^^ crcBits poly n b := by
  induction n generalizing a b with
  | zero => rfl
  | succ n ih => simp [crcBits, crcBit_xor, ih]

end Sys2Proof.Machine
end

