-- ==== Sys2Proof/Laws/Decode.lean ====
section
/-! SUPPORT. What each decoder can answer, said once: format S, the command words, the body of a frame. -/

namespace Sys2Proof

open Sys2Proof.Machine

/-- A length that format S can write, as a 16-bit value. -/
theorem toNat_operandLength {n : Nat} (h : n ≤ 65535) : (BitVec.ofNat 16 n).toNat = n := by
  rw [BitVec.toNat_ofNat]
  omega

/-- Format S reads back the operand that was written. -/
theorem decodeFormatS_encodeOperand (mk : List Byte → Instr) {s : List Byte} (rest : List Byte) (h : s.length ≤ 65535) :
    decodeFormatS mk (encodeOperand s ++ rest) = .ok (mk s, rest) := by
  simp [decodeFormatS, encodeOperand, toNat_operandLength h, -BitVec.toNat_ofNat]

/-- What format S reads is an operand that it can write. -/
theorem decodeFormatS_eq_ok {mk : List Byte → Instr} {bytes rest : List Byte} {i : Instr}
    (h : decodeFormatS mk bytes = .ok (i, rest)) :
    ∃ s : List Byte, i = mk s ∧ s.length ≤ 65535 ∧ bytes = encodeOperand s ++ rest := by
  unfold decodeFormatS at h
  split at h
  · rename_i l k tail
    split at h
    · rename_i hle
      cases h
      have := (le16 l k).isLt
      refine ⟨_, rfl, by rw [List.length_take]; omega, ?_⟩
      simp only [encodeOperand, List.length_take, Nat.min_eq_left hle]
      simp
    · cases h
  · cases h
  · cases h

/-- A reserved command word decodes to itself. -/
theorem decodeCommand_of_isReserved {cmd : Byte} (rest : List Byte) (h : isReserved cmd) :
    decodeCommand (cmd :: rest) = .ok (.reserved cmd, rest) := by
  have h : 7 ≤ cmd.toNat := h
  simp only [decodeCommand]
  split <;> first | omega | rfl

/-- A command word that is not reserved is one of the seven (R83). -/
theorem command_of_not_isReserved :
    ∀ cmd : Byte, ¬ isReserved cmd → cmd = 0 ∨ cmd = 1 ∨ cmd = 2 ∨ cmd = 3 ∨ cmd = 4 ∨ cmd = 5 ∨ cmd = 6 := by
  decide +kernel

/-- What is left of a list of at least `n` items, cut before its `n - 2`th and after its `n`th. -/
theorem cut_trailer (l : List Byte) (n : Nat) : l = l.take (n - 2) ++ ((l.take n).drop (n - 2) ++ l.drop n) := by
  have h : l.take (n - 2) = (l.take n).take (n - 2) := by
    rw [List.take_take]
    congr 1
    omega
  rw [h, ← List.append_assoc, List.take_append_drop, List.take_append_drop]

/-- The body and trailer that a decoded frame had. -/
theorem decodeBody_eq_ok {c : CrcParams} {n : Nat} {tail rest : List Byte} {i : Instr} (h : decodeBody c n tail = .ok (i, rest)) :
    ∃ p : List Byte, i = wireInstr p ∧ p = tail.take (n - 2) ∧ n ≤ tail.length ∧ tail = p ++ trailer c p ++ rest := by
  unfold decodeBody at h
  split at h
  · split at h
    · rename_i ht
      cases h
      refine ⟨_, rfl, rfl, ‹_›, ?_⟩
      rw [← ht, List.append_assoc]
      exact cut_trailer tail n
    · cases h
  · cases h

end Sys2Proof
end

