-- ==== Sys2Proof/Laws/State.lean ====
section
/-! SUPPORT. One lemma per field per named update of State, each true by definition. -/

namespace Sys2Proof.Machine

/-! ### `setOs` -/

@[simp] theorem State.setOs_st (v : Bool) (s : State) : (State.setOs v s).st = s.st := (rfl)
@[simp] theorem State.setOs_cur (v : Bool) (s : State) : (State.setOs v s).cur = s.cur := (rfl)
@[simp] theorem State.setOs_exp (v : Bool) (s : State) : (State.setOs v s).exp = s.exp := (rfl)
@[simp] theorem State.setOs_rxbuf (v : Bool) (s : State) : (State.setOs v s).rxbuf = s.rxbuf := (rfl)
@[simp] theorem State.setOs_txbuf (v : Bool) (s : State) : (State.setOs v s).txbuf = s.txbuf := (rfl)
@[simp] theorem State.setOs_txlen (v : Bool) (s : State) : (State.setOs v s).txlen = s.txlen := (rfl)
@[simp] theorem State.setOs_os (v : Bool) (s : State) : (State.setOs v s).os = v := (rfl)
@[simp] theorem State.setOs_crcParams (v : Bool) (s : State) : (State.setOs v s).crcParams = s.crcParams := (rfl)
@[simp] theorem State.setOs_tx (v : Bool) (s : State) : (State.setOs v s).tx = s.tx := (rfl)
@[simp] theorem State.setOs_dlv (v : Bool) (s : State) : (State.setOs v s).dlv = s.dlv := (rfl)
@[simp] theorem State.setOs_results (v : Bool) (s : State) : (State.setOs v s).results = s.results := (rfl)
@[simp] theorem State.setOs_handlerResults (v : Bool) (s : State) : (State.setOs v s).handlerResults = s.handlerResults := (rfl)
@[simp] theorem State.setOs_handler (v : Bool) (s : State) : (State.setOs v s).handler = s.handler := (rfl)
@[simp] theorem State.setOs_inputs (v : Bool) (s : State) : (State.setOs v s).inputs = s.inputs := (rfl)
@[simp] theorem State.setOs_contended (v : Bool) (s : State) : (State.setOs v s).contended = s.contended := (rfl)
@[simp] theorem State.setOs_feedHit (v : Bool) (s : State) : (State.setOs v s).feedHit = s.feedHit := (rfl)
@[simp] theorem State.setOs_feedReturns (v : Bool) (s : State) : (State.setOs v s).feedReturns = s.feedReturns := (rfl)
@[simp] theorem State.setOs_heldCommand (v : Bool) (s : State) : (State.setOs v s).heldCommand = s.heldCommand := (rfl)
@[simp] theorem State.setOs_frameBytes (v : Bool) (s : State) : (State.setOs v s).frameBytes = s.frameBytes := (rfl)
@[simp] theorem State.setOs_lastFrame (v : Bool) (s : State) : (State.setOs v s).lastFrame = s.lastFrame := (rfl)

/-! ### `setSt` -/

@[simp] theorem State.setSt_st (v : DecState) (s : State) : (State.setSt v s).st = v := (rfl)
@[simp] theorem State.setSt_cur (v : DecState) (s : State) : (State.setSt v s).cur = s.cur := (rfl)
@[simp] theorem State.setSt_exp (v : DecState) (s : State) : (State.setSt v s).exp = s.exp := (rfl)
@[simp] theorem State.setSt_rxbuf (v : DecState) (s : State) : (State.setSt v s).rxbuf = s.rxbuf := (rfl)
@[simp] theorem State.setSt_txbuf (v : DecState) (s : State) : (State.setSt v s).txbuf = s.txbuf := (rfl)
@[simp] theorem State.setSt_txlen (v : DecState) (s : State) : (State.setSt v s).txlen = s.txlen := (rfl)
@[simp] theorem State.setSt_os (v : DecState) (s : State) : (State.setSt v s).os = s.os := (rfl)
@[simp] theorem State.setSt_crcParams (v : DecState) (s : State) : (State.setSt v s).crcParams = s.crcParams := (rfl)
@[simp] theorem State.setSt_tx (v : DecState) (s : State) : (State.setSt v s).tx = s.tx := (rfl)
@[simp] theorem State.setSt_dlv (v : DecState) (s : State) : (State.setSt v s).dlv = s.dlv := (rfl)
@[simp] theorem State.setSt_results (v : DecState) (s : State) : (State.setSt v s).results = s.results := (rfl)
@[simp] theorem State.setSt_handlerResults (v : DecState) (s : State) : (State.setSt v s).handlerResults = s.handlerResults := (rfl)
@[simp] theorem State.setSt_handler (v : DecState) (s : State) : (State.setSt v s).handler = s.handler := (rfl)
@[simp] theorem State.setSt_inputs (v : DecState) (s : State) : (State.setSt v s).inputs = s.inputs := (rfl)
@[simp] theorem State.setSt_contended (v : DecState) (s : State) : (State.setSt v s).contended = s.contended := (rfl)
@[simp] theorem State.setSt_feedHit (v : DecState) (s : State) : (State.setSt v s).feedHit = s.feedHit := (rfl)
@[simp] theorem State.setSt_feedReturns (v : DecState) (s : State) : (State.setSt v s).feedReturns = s.feedReturns := (rfl)
@[simp] theorem State.setSt_heldCommand (v : DecState) (s : State) : (State.setSt v s).heldCommand = s.heldCommand := (rfl)
@[simp] theorem State.setSt_frameBytes (v : DecState) (s : State) : (State.setSt v s).frameBytes = s.frameBytes := (rfl)
@[simp] theorem State.setSt_lastFrame (v : DecState) (s : State) : (State.setSt v s).lastFrame = s.lastFrame := (rfl)

/-! ### `endFrame` -/

@[simp] theorem State.endFrame_st (s : State) : (State.endFrame s).st = .awaitingStart := (rfl)
@[simp] theorem State.endFrame_cur (s : State) : (State.endFrame s).cur = s.cur := (rfl)
@[simp] theorem State.endFrame_exp (s : State) : (State.endFrame s).exp = s.exp := (rfl)
@[simp] theorem State.endFrame_rxbuf (s : State) : (State.endFrame s).rxbuf = s.rxbuf := (rfl)
@[simp] theorem State.endFrame_txbuf (s : State) : (State.endFrame s).txbuf = s.txbuf := (rfl)
@[simp] theorem State.endFrame_txlen (s : State) : (State.endFrame s).txlen = s.txlen := (rfl)
@[simp] theorem State.endFrame_os (s : State) : (State.endFrame s).os = s.os := (rfl)
@[simp] theorem State.endFrame_crcParams (s : State) : (State.endFrame s).crcParams = s.crcParams := (rfl)
@[simp] theorem State.endFrame_tx (s : State) : (State.endFrame s).tx = s.tx := (rfl)
@[simp] theorem State.endFrame_dlv (s : State) : (State.endFrame s).dlv = s.dlv := (rfl)
@[simp] theorem State.endFrame_results (s : State) : (State.endFrame s).results = s.results := (rfl)
@[simp] theorem State.endFrame_handlerResults (s : State) : (State.endFrame s).handlerResults = s.handlerResults := (rfl)
@[simp] theorem State.endFrame_handler (s : State) : (State.endFrame s).handler = s.handler := (rfl)
@[simp] theorem State.endFrame_inputs (s : State) : (State.endFrame s).inputs = s.inputs := (rfl)
@[simp] theorem State.endFrame_contended (s : State) : (State.endFrame s).contended = s.contended := (rfl)
@[simp] theorem State.endFrame_feedHit (s : State) : (State.endFrame s).feedHit = s.feedHit := (rfl)
@[simp] theorem State.endFrame_feedReturns (s : State) : (State.endFrame s).feedReturns = s.feedReturns := (rfl)
@[simp] theorem State.endFrame_heldCommand (s : State) : (State.endFrame s).heldCommand = s.heldCommand := (rfl)
@[simp] theorem State.endFrame_frameBytes (s : State) : (State.endFrame s).frameBytes = [] := (rfl)
@[simp] theorem State.endFrame_lastFrame (s : State) : (State.endFrame s).lastFrame = s.lastFrame := (rfl)

/-! ### `startFrame` -/

@[simp] theorem State.startFrame_st (b : Byte) (s : State) : (State.startFrame b s).st = .awaitingLength := (rfl)
@[simp] theorem State.startFrame_cur (b : Byte) (s : State) : (State.startFrame b s).cur = 0#11 := (rfl)
@[simp] theorem State.startFrame_exp (b : Byte) (s : State) : (State.startFrame b s).exp = s.exp := (rfl)
@[simp] theorem State.startFrame_rxbuf (b : Byte) (s : State) : (State.startFrame b s).rxbuf = s.rxbuf := (rfl)
@[simp] theorem State.startFrame_txbuf (b : Byte) (s : State) : (State.startFrame b s).txbuf = s.txbuf := (rfl)
@[simp] theorem State.startFrame_txlen (b : Byte) (s : State) : (State.startFrame b s).txlen = s.txlen := (rfl)
@[simp] theorem State.startFrame_os (b : Byte) (s : State) : (State.startFrame b s).os = s.os := (rfl)
@[simp] theorem State.startFrame_crcParams (b : Byte) (s : State) : (State.startFrame b s).crcParams = s.crcParams := (rfl)
@[simp] theorem State.startFrame_tx (b : Byte) (s : State) : (State.startFrame b s).tx = s.tx := (rfl)
@[simp] theorem State.startFrame_dlv (b : Byte) (s : State) : (State.startFrame b s).dlv = s.dlv := (rfl)
@[simp] theorem State.startFrame_results (b : Byte) (s : State) : (State.startFrame b s).results = s.results := (rfl)
@[simp] theorem State.startFrame_handlerResults (b : Byte) (s : State) : (State.startFrame b s).handlerResults = s.handlerResults := (rfl)
@[simp] theorem State.startFrame_handler (b : Byte) (s : State) : (State.startFrame b s).handler = s.handler := (rfl)
@[simp] theorem State.startFrame_inputs (b : Byte) (s : State) : (State.startFrame b s).inputs = s.inputs := (rfl)
@[simp] theorem State.startFrame_contended (b : Byte) (s : State) : (State.startFrame b s).contended = s.contended := (rfl)
@[simp] theorem State.startFrame_feedHit (b : Byte) (s : State) : (State.startFrame b s).feedHit = s.feedHit := (rfl)
@[simp] theorem State.startFrame_feedReturns (b : Byte) (s : State) : (State.startFrame b s).feedReturns = s.feedReturns := (rfl)
@[simp] theorem State.startFrame_heldCommand (b : Byte) (s : State) : (State.startFrame b s).heldCommand = s.heldCommand := (rfl)
@[simp] theorem State.startFrame_frameBytes (b : Byte) (s : State) : (State.startFrame b s).frameBytes = [b] := (rfl)
@[simp] theorem State.startFrame_lastFrame (b : Byte) (s : State) : (State.startFrame b s).lastFrame = s.lastFrame := (rfl)

/-! ### `setCur` -/

@[simp] theorem State.setCur_st (v : Count) (s : State) : (State.setCur v s).st = s.st := (rfl)
@[simp] theorem State.setCur_cur (v : Count) (s : State) : (State.setCur v s).cur = v := (rfl)
@[simp] theorem State.setCur_exp (v : Count) (s : State) : (State.setCur v s).exp = s.exp := (rfl)
@[simp] theorem State.setCur_rxbuf (v : Count) (s : State) : (State.setCur v s).rxbuf = s.rxbuf := (rfl)
@[simp] theorem State.setCur_txbuf (v : Count) (s : State) : (State.setCur v s).txbuf = s.txbuf := (rfl)
@[simp] theorem State.setCur_txlen (v : Count) (s : State) : (State.setCur v s).txlen = s.txlen := (rfl)
@[simp] theorem State.setCur_os (v : Count) (s : State) : (State.setCur v s).os = s.os := (rfl)
@[simp] theorem State.setCur_crcParams (v : Count) (s : State) : (State.setCur v s).crcParams = s.crcParams := (rfl)
@[simp] theorem State.setCur_tx (v : Count) (s : State) : (State.setCur v s).tx = s.tx := (rfl)
@[simp] theorem State.setCur_dlv (v : Count) (s : State) : (State.setCur v s).dlv = s.dlv := (rfl)
@[simp] theorem State.setCur_results (v : Count) (s : State) : (State.setCur v s).results = s.results := (rfl)
@[simp] theorem State.setCur_handlerResults (v : Count) (s : State) : (State.setCur v s).handlerResults = s.handlerResults := (rfl)
@[simp] theorem State.setCur_handler (v : Count) (s : State) : (State.setCur v s).handler = s.handler := (rfl)
@[simp] theorem State.setCur_inputs (v : Count) (s : State) : (State.setCur v s).inputs = s.inputs := (rfl)
@[simp] theorem State.setCur_contended (v : Count) (s : State) : (State.setCur v s).contended = s.contended := (rfl)
@[simp] theorem State.setCur_feedHit (v : Count) (s : State) : (State.setCur v s).feedHit = s.feedHit := (rfl)
@[simp] theorem State.setCur_feedReturns (v : Count) (s : State) : (State.setCur v s).feedReturns = s.feedReturns := (rfl)
@[simp] theorem State.setCur_heldCommand (v : Count) (s : State) : (State.setCur v s).heldCommand = s.heldCommand := (rfl)
@[simp] theorem State.setCur_frameBytes (v : Count) (s : State) : (State.setCur v s).frameBytes = s.frameBytes := (rfl)
@[simp] theorem State.setCur_lastFrame (v : Count) (s : State) : (State.setCur v s).lastFrame = s.lastFrame := (rfl)

/-! ### `setExp` -/

@[simp] theorem State.setExp_st (v : Count) (s : State) : (State.setExp v s).st = s.st := (rfl)
@[simp] theorem State.setExp_cur (v : Count) (s : State) : (State.setExp v s).cur = s.cur := (rfl)
@[simp] theorem State.setExp_exp (v : Count) (s : State) : (State.setExp v s).exp = v := (rfl)
@[simp] theorem State.setExp_rxbuf (v : Count) (s : State) : (State.setExp v s).rxbuf = s.rxbuf := (rfl)
@[simp] theorem State.setExp_txbuf (v : Count) (s : State) : (State.setExp v s).txbuf = s.txbuf := (rfl)
@[simp] theorem State.setExp_txlen (v : Count) (s : State) : (State.setExp v s).txlen = s.txlen := (rfl)
@[simp] theorem State.setExp_os (v : Count) (s : State) : (State.setExp v s).os = s.os := (rfl)
@[simp] theorem State.setExp_crcParams (v : Count) (s : State) : (State.setExp v s).crcParams = s.crcParams := (rfl)
@[simp] theorem State.setExp_tx (v : Count) (s : State) : (State.setExp v s).tx = s.tx := (rfl)
@[simp] theorem State.setExp_dlv (v : Count) (s : State) : (State.setExp v s).dlv = s.dlv := (rfl)
@[simp] theorem State.setExp_results (v : Count) (s : State) : (State.setExp v s).results = s.results := (rfl)
@[simp] theorem State.setExp_handlerResults (v : Count) (s : State) : (State.setExp v s).handlerResults = s.handlerResults := (rfl)
@[simp] theorem State.setExp_handler (v : Count) (s : State) : (State.setExp v s).handler = s.handler := (rfl)
@[simp] theorem State.setExp_inputs (v : Count) (s : State) : (State.setExp v s).inputs = s.inputs := (rfl)
@[simp] theorem State.setExp_contended (v : Count) (s : State) : (State.setExp v s).contended = s.contended := (rfl)
@[simp] theorem State.setExp_feedHit (v : Count) (s : State) : (State.setExp v s).feedHit = s.feedHit := (rfl)
@[simp] theorem State.setExp_feedReturns (v : Count) (s : State) : (State.setExp v s).feedReturns = s.feedReturns := (rfl)
@[simp] theorem State.setExp_heldCommand (v : Count) (s : State) : (State.setExp v s).heldCommand = s.heldCommand := (rfl)
@[simp] theorem State.setExp_frameBytes (v : Count) (s : State) : (State.setExp v s).frameBytes = s.frameBytes := (rfl)
@[simp] theorem State.setExp_lastFrame (v : Count) (s : State) : (State.setExp v s).lastFrame = s.lastFrame := (rfl)

/-! ### `pushRx` -/

@[simp] theorem State.pushRx_st (b : Byte) (s : State) : (State.pushRx b s).st = s.st := (rfl)
@[simp] theorem State.pushRx_cur (b : Byte) (s : State) : (State.pushRx b s).cur = s.cur + 1#11 := (rfl)
@[simp] theorem State.pushRx_exp (b : Byte) (s : State) : (State.pushRx b s).exp = s.exp := (rfl)
@[simp] theorem State.pushRx_rxbuf (b : Byte) (s : State) : (State.pushRx b s).rxbuf = s.rxbuf.writeByte s.cur.toNat b := (rfl)
@[simp] theorem State.pushRx_txbuf (b : Byte) (s : State) : (State.pushRx b s).txbuf = s.txbuf := (rfl)
@[simp] theorem State.pushRx_txlen (b : Byte) (s : State) : (State.pushRx b s).txlen = s.txlen := (rfl)
@[simp] theorem State.pushRx_os (b : Byte) (s : State) : (State.pushRx b s).os = s.os := (rfl)
@[simp] theorem State.pushRx_crcParams (b : Byte) (s : State) : (State.pushRx b s).crcParams = s.crcParams := (rfl)
@[simp] theorem State.pushRx_tx (b : Byte) (s : State) : (State.pushRx b s).tx = s.tx := (rfl)
@[simp] theorem State.pushRx_dlv (b : Byte) (s : State) : (State.pushRx b s).dlv = s.dlv := (rfl)
@[simp] theorem State.pushRx_results (b : Byte) (s : State) : (State.pushRx b s).results = s.results := (rfl)
@[simp] theorem State.pushRx_handlerResults (b : Byte) (s : State) : (State.pushRx b s).handlerResults = s.handlerResults := (rfl)
@[simp] theorem State.pushRx_handler (b : Byte) (s : State) : (State.pushRx b s).handler = s.handler := (rfl)
@[simp] theorem State.pushRx_inputs (b : Byte) (s : State) : (State.pushRx b s).inputs = s.inputs := (rfl)
@[simp] theorem State.pushRx_contended (b : Byte) (s : State) : (State.pushRx b s).contended = s.contended := (rfl)
@[simp] theorem State.pushRx_feedHit (b : Byte) (s : State) : (State.pushRx b s).feedHit = s.feedHit := (rfl)
@[simp] theorem State.pushRx_feedReturns (b : Byte) (s : State) : (State.pushRx b s).feedReturns = s.feedReturns := (rfl)
@[simp] theorem State.pushRx_heldCommand (b : Byte) (s : State) : (State.pushRx b s).heldCommand = s.heldCommand := (rfl)
@[simp] theorem State.pushRx_frameBytes (b : Byte) (s : State) : (State.pushRx b s).frameBytes = s.frameBytes ++ [b] := (rfl)
@[simp] theorem State.pushRx_lastFrame (b : Byte) (s : State) : (State.pushRx b s).lastFrame = s.lastFrame := (rfl)

/-! ### `cacheFrame` -/

@[simp] theorem State.cacheFrame_st (f : List Byte) (s : State) : (State.cacheFrame f s).st = s.st := (rfl)
@[simp] theorem State.cacheFrame_cur (f : List Byte) (s : State) : (State.cacheFrame f s).cur = s.cur := (rfl)
@[simp] theorem State.cacheFrame_exp (f : List Byte) (s : State) : (State.cacheFrame f s).exp = s.exp := (rfl)
@[simp] theorem State.cacheFrame_rxbuf (f : List Byte) (s : State) : (State.cacheFrame f s).rxbuf = s.rxbuf := (rfl)
@[simp] theorem State.cacheFrame_txbuf (f : List Byte) (s : State) : (State.cacheFrame f s).txbuf = s.txbuf.writeBytes 0 f := (rfl)
@[simp] theorem State.cacheFrame_txlen (f : List Byte) (s : State) : (State.cacheFrame f s).txlen = BitVec.ofNat 11 f.length := (rfl)
@[simp] theorem State.cacheFrame_os (f : List Byte) (s : State) : (State.cacheFrame f s).os = s.os := (rfl)
@[simp] theorem State.cacheFrame_crcParams (f : List Byte) (s : State) : (State.cacheFrame f s).crcParams = s.crcParams := (rfl)
@[simp] theorem State.cacheFrame_tx (f : List Byte) (s : State) : (State.cacheFrame f s).tx = s.tx := (rfl)
@[simp] theorem State.cacheFrame_dlv (f : List Byte) (s : State) : (State.cacheFrame f s).dlv = s.dlv := (rfl)
@[simp] theorem State.cacheFrame_results (f : List Byte) (s : State) : (State.cacheFrame f s).results = s.results := (rfl)
@[simp] theorem State.cacheFrame_handlerResults (f : List Byte) (s : State) : (State.cacheFrame f s).handlerResults = s.handlerResults := (rfl)
@[simp] theorem State.cacheFrame_handler (f : List Byte) (s : State) : (State.cacheFrame f s).handler = s.handler := (rfl)
@[simp] theorem State.cacheFrame_inputs (f : List Byte) (s : State) : (State.cacheFrame f s).inputs = s.inputs := (rfl)
@[simp] theorem State.cacheFrame_contended (f : List Byte) (s : State) : (State.cacheFrame f s).contended = s.contended := (rfl)
@[simp] theorem State.cacheFrame_feedHit (f : List Byte) (s : State) : (State.cacheFrame f s).feedHit = s.feedHit := (rfl)
@[simp] theorem State.cacheFrame_feedReturns (f : List Byte) (s : State) : (State.cacheFrame f s).feedReturns = s.feedReturns := (rfl)
@[simp] theorem State.cacheFrame_heldCommand (f : List Byte) (s : State) : (State.cacheFrame f s).heldCommand = s.heldCommand := (rfl)
@[simp] theorem State.cacheFrame_frameBytes (f : List Byte) (s : State) : (State.cacheFrame f s).frameBytes = s.frameBytes := (rfl)
@[simp] theorem State.cacheFrame_lastFrame (f : List Byte) (s : State) : (State.cacheFrame f s).lastFrame = s.lastFrame := (rfl)

/-! ### `noteFrame` -/

@[simp] theorem State.noteFrame_st (f : List Byte) (s : State) : (State.noteFrame f s).st = s.st := (rfl)
@[simp] theorem State.noteFrame_cur (f : List Byte) (s : State) : (State.noteFrame f s).cur = s.cur := (rfl)
@[simp] theorem State.noteFrame_exp (f : List Byte) (s : State) : (State.noteFrame f s).exp = s.exp := (rfl)
@[simp] theorem State.noteFrame_rxbuf (f : List Byte) (s : State) : (State.noteFrame f s).rxbuf = s.rxbuf := (rfl)
@[simp] theorem State.noteFrame_txbuf (f : List Byte) (s : State) : (State.noteFrame f s).txbuf = s.txbuf := (rfl)
@[simp] theorem State.noteFrame_txlen (f : List Byte) (s : State) : (State.noteFrame f s).txlen = s.txlen := (rfl)
@[simp] theorem State.noteFrame_os (f : List Byte) (s : State) : (State.noteFrame f s).os = s.os := (rfl)
@[simp] theorem State.noteFrame_crcParams (f : List Byte) (s : State) : (State.noteFrame f s).crcParams = s.crcParams := (rfl)
@[simp] theorem State.noteFrame_tx (f : List Byte) (s : State) : (State.noteFrame f s).tx = s.tx := (rfl)
@[simp] theorem State.noteFrame_dlv (f : List Byte) (s : State) : (State.noteFrame f s).dlv = s.dlv := (rfl)
@[simp] theorem State.noteFrame_results (f : List Byte) (s : State) : (State.noteFrame f s).results = s.results := (rfl)
@[simp] theorem State.noteFrame_handlerResults (f : List Byte) (s : State) : (State.noteFrame f s).handlerResults = s.handlerResults := (rfl)
@[simp] theorem State.noteFrame_handler (f : List Byte) (s : State) : (State.noteFrame f s).handler = s.handler := (rfl)
@[simp] theorem State.noteFrame_inputs (f : List Byte) (s : State) : (State.noteFrame f s).inputs = s.inputs := (rfl)
@[simp] theorem State.noteFrame_contended (f : List Byte) (s : State) : (State.noteFrame f s).contended = s.contended := (rfl)
@[simp] theorem State.noteFrame_feedHit (f : List Byte) (s : State) : (State.noteFrame f s).feedHit = s.feedHit := (rfl)
@[simp] theorem State.noteFrame_feedReturns (f : List Byte) (s : State) : (State.noteFrame f s).feedReturns = s.feedReturns := (rfl)
@[simp] theorem State.noteFrame_heldCommand (f : List Byte) (s : State) : (State.noteFrame f s).heldCommand = s.heldCommand := (rfl)
@[simp] theorem State.noteFrame_frameBytes (f : List Byte) (s : State) : (State.noteFrame f s).frameBytes = s.frameBytes := (rfl)
@[simp] theorem State.noteFrame_lastFrame (f : List Byte) (s : State) : (State.noteFrame f s).lastFrame = some f := (rfl)

/-! ### `txWrite` -/

@[simp] theorem State.txWrite_st (f : List Byte) (s : State) : (State.txWrite f s).st = s.st := (rfl)
@[simp] theorem State.txWrite_cur (f : List Byte) (s : State) : (State.txWrite f s).cur = s.cur := (rfl)
@[simp] theorem State.txWrite_exp (f : List Byte) (s : State) : (State.txWrite f s).exp = s.exp := (rfl)
@[simp] theorem State.txWrite_rxbuf (f : List Byte) (s : State) : (State.txWrite f s).rxbuf = s.rxbuf := (rfl)
@[simp] theorem State.txWrite_txbuf (f : List Byte) (s : State) : (State.txWrite f s).txbuf = s.txbuf := (rfl)
@[simp] theorem State.txWrite_txlen (f : List Byte) (s : State) : (State.txWrite f s).txlen = s.txlen := (rfl)
@[simp] theorem State.txWrite_os (f : List Byte) (s : State) : (State.txWrite f s).os = s.os := (rfl)
@[simp] theorem State.txWrite_crcParams (f : List Byte) (s : State) : (State.txWrite f s).crcParams = s.crcParams := (rfl)
@[simp] theorem State.txWrite_tx (f : List Byte) (s : State) : (State.txWrite f s).tx = s.tx ++ [f] := (rfl)
@[simp] theorem State.txWrite_dlv (f : List Byte) (s : State) : (State.txWrite f s).dlv = s.dlv := (rfl)
@[simp] theorem State.txWrite_results (f : List Byte) (s : State) : (State.txWrite f s).results = s.results := (rfl)
@[simp] theorem State.txWrite_handlerResults (f : List Byte) (s : State) : (State.txWrite f s).handlerResults = s.handlerResults := (rfl)
@[simp] theorem State.txWrite_handler (f : List Byte) (s : State) : (State.txWrite f s).handler = s.handler := (rfl)
@[simp] theorem State.txWrite_inputs (f : List Byte) (s : State) : (State.txWrite f s).inputs = s.inputs := (rfl)
@[simp] theorem State.txWrite_contended (f : List Byte) (s : State) : (State.txWrite f s).contended = s.contended := (rfl)
@[simp] theorem State.txWrite_feedHit (f : List Byte) (s : State) : (State.txWrite f s).feedHit = s.feedHit := (rfl)
@[simp] theorem State.txWrite_feedReturns (f : List Byte) (s : State) : (State.txWrite f s).feedReturns = s.feedReturns := (rfl)
@[simp] theorem State.txWrite_heldCommand (f : List Byte) (s : State) : (State.txWrite f s).heldCommand = s.heldCommand := (rfl)
@[simp] theorem State.txWrite_frameBytes (f : List Byte) (s : State) : (State.txWrite f s).frameBytes = s.frameBytes := (rfl)
@[simp] theorem State.txWrite_lastFrame (f : List Byte) (s : State) : (State.txWrite f s).lastFrame = s.lastFrame := (rfl)

/-! ### `logDelivery` -/

@[simp] theorem State.logDelivery_st (p : List Byte) (s : State) : (State.logDelivery p s).st = s.st := (rfl)
@[simp] theorem State.logDelivery_cur (p : List Byte) (s : State) : (State.logDelivery p s).cur = s.cur := (rfl)
@[simp] theorem State.logDelivery_exp (p : List Byte) (s : State) : (State.logDelivery p s).exp = s.exp := (rfl)
@[simp] theorem State.logDelivery_rxbuf (p : List Byte) (s : State) : (State.logDelivery p s).rxbuf = s.rxbuf := (rfl)
@[simp] theorem State.logDelivery_txbuf (p : List Byte) (s : State) : (State.logDelivery p s).txbuf = s.txbuf := (rfl)
@[simp] theorem State.logDelivery_txlen (p : List Byte) (s : State) : (State.logDelivery p s).txlen = s.txlen := (rfl)
@[simp] theorem State.logDelivery_os (p : List Byte) (s : State) : (State.logDelivery p s).os = s.os := (rfl)
@[simp] theorem State.logDelivery_crcParams (p : List Byte) (s : State) : (State.logDelivery p s).crcParams = s.crcParams := (rfl)
@[simp] theorem State.logDelivery_tx (p : List Byte) (s : State) : (State.logDelivery p s).tx = s.tx := (rfl)
@[simp] theorem State.logDelivery_dlv (p : List Byte) (s : State) : (State.logDelivery p s).dlv = s.dlv ++ [p] := (rfl)
@[simp] theorem State.logDelivery_results (p : List Byte) (s : State) : (State.logDelivery p s).results = s.results := (rfl)
@[simp] theorem State.logDelivery_handlerResults (p : List Byte) (s : State) : (State.logDelivery p s).handlerResults = s.handlerResults := (rfl)
@[simp] theorem State.logDelivery_handler (p : List Byte) (s : State) : (State.logDelivery p s).handler = s.handler := (rfl)
@[simp] theorem State.logDelivery_inputs (p : List Byte) (s : State) : (State.logDelivery p s).inputs = s.inputs := (rfl)
@[simp] theorem State.logDelivery_contended (p : List Byte) (s : State) : (State.logDelivery p s).contended = s.contended := (rfl)
@[simp] theorem State.logDelivery_feedHit (p : List Byte) (s : State) : (State.logDelivery p s).feedHit = s.feedHit := (rfl)
@[simp] theorem State.logDelivery_feedReturns (p : List Byte) (s : State) : (State.logDelivery p s).feedReturns = s.feedReturns := (rfl)
@[simp] theorem State.logDelivery_heldCommand (p : List Byte) (s : State) : (State.logDelivery p s).heldCommand = s.heldCommand := (rfl)
@[simp] theorem State.logDelivery_frameBytes (p : List Byte) (s : State) : (State.logDelivery p s).frameBytes = s.frameBytes := (rfl)
@[simp] theorem State.logDelivery_lastFrame (p : List Byte) (s : State) : (State.logDelivery p s).lastFrame = s.lastFrame := (rfl)

/-! ### `record` -/

@[simp] theorem State.record_st (r : OpResult) (s : State) : (State.record r s).st = s.st := (rfl)
@[simp] theorem State.record_cur (r : OpResult) (s : State) : (State.record r s).cur = s.cur := (rfl)
@[simp] theorem State.record_exp (r : OpResult) (s : State) : (State.record r s).exp = s.exp := (rfl)
@[simp] theorem State.record_rxbuf (r : OpResult) (s : State) : (State.record r s).rxbuf = s.rxbuf := (rfl)
@[simp] theorem State.record_txbuf (r : OpResult) (s : State) : (State.record r s).txbuf = s.txbuf := (rfl)
@[simp] theorem State.record_txlen (r : OpResult) (s : State) : (State.record r s).txlen = s.txlen := (rfl)
@[simp] theorem State.record_os (r : OpResult) (s : State) : (State.record r s).os = s.os := (rfl)
@[simp] theorem State.record_crcParams (r : OpResult) (s : State) : (State.record r s).crcParams = s.crcParams := (rfl)
@[simp] theorem State.record_tx (r : OpResult) (s : State) : (State.record r s).tx = s.tx := (rfl)
@[simp] theorem State.record_dlv (r : OpResult) (s : State) : (State.record r s).dlv = s.dlv := (rfl)
@[simp] theorem State.record_results (r : OpResult) (s : State) : (State.record r s).results = s.results ++ [r] := (rfl)
@[simp] theorem State.record_handlerResults (r : OpResult) (s : State) : (State.record r s).handlerResults = s.handlerResults := (rfl)
@[simp] theorem State.record_handler (r : OpResult) (s : State) : (State.record r s).handler = s.handler := (rfl)
@[simp] theorem State.record_inputs (r : OpResult) (s : State) : (State.record r s).inputs = s.inputs := (rfl)
@[simp] theorem State.record_contended (r : OpResult) (s : State) : (State.record r s).contended = s.contended := (rfl)
@[simp] theorem State.record_feedHit (r : OpResult) (s : State) : (State.record r s).feedHit = s.feedHit := (rfl)
@[simp] theorem State.record_feedReturns (r : OpResult) (s : State) : (State.record r s).feedReturns = s.feedReturns := (rfl)
@[simp] theorem State.record_heldCommand (r : OpResult) (s : State) : (State.record r s).heldCommand = s.heldCommand := (rfl)
@[simp] theorem State.record_frameBytes (r : OpResult) (s : State) : (State.record r s).frameBytes = s.frameBytes := (rfl)
@[simp] theorem State.record_lastFrame (r : OpResult) (s : State) : (State.record r s).lastFrame = s.lastFrame := (rfl)

/-! ### `recordHandler` -/

@[simp] theorem State.recordHandler_st (r : OpResult) (s : State) : (State.recordHandler r s).st = s.st := (rfl)
@[simp] theorem State.recordHandler_cur (r : OpResult) (s : State) : (State.recordHandler r s).cur = s.cur := (rfl)
@[simp] theorem State.recordHandler_exp (r : OpResult) (s : State) : (State.recordHandler r s).exp = s.exp := (rfl)
@[simp] theorem State.recordHandler_rxbuf (r : OpResult) (s : State) : (State.recordHandler r s).rxbuf = s.rxbuf := (rfl)
@[simp] theorem State.recordHandler_txbuf (r : OpResult) (s : State) : (State.recordHandler r s).txbuf = s.txbuf := (rfl)
@[simp] theorem State.recordHandler_txlen (r : OpResult) (s : State) : (State.recordHandler r s).txlen = s.txlen := (rfl)
@[simp] theorem State.recordHandler_os (r : OpResult) (s : State) : (State.recordHandler r s).os = s.os := (rfl)
@[simp] theorem State.recordHandler_crcParams (r : OpResult) (s : State) : (State.recordHandler r s).crcParams = s.crcParams := (rfl)
@[simp] theorem State.recordHandler_tx (r : OpResult) (s : State) : (State.recordHandler r s).tx = s.tx := (rfl)
@[simp] theorem State.recordHandler_dlv (r : OpResult) (s : State) : (State.recordHandler r s).dlv = s.dlv := (rfl)
@[simp] theorem State.recordHandler_results (r : OpResult) (s : State) : (State.recordHandler r s).results = s.results := (rfl)
@[simp] theorem State.recordHandler_handlerResults (r : OpResult) (s : State) : (State.recordHandler r s).handlerResults = s.handlerResults ++ [r] := (rfl)
@[simp] theorem State.recordHandler_handler (r : OpResult) (s : State) : (State.recordHandler r s).handler = s.handler := (rfl)
@[simp] theorem State.recordHandler_inputs (r : OpResult) (s : State) : (State.recordHandler r s).inputs = s.inputs := (rfl)
@[simp] theorem State.recordHandler_contended (r : OpResult) (s : State) : (State.recordHandler r s).contended = s.contended := (rfl)
@[simp] theorem State.recordHandler_feedHit (r : OpResult) (s : State) : (State.recordHandler r s).feedHit = s.feedHit := (rfl)
@[simp] theorem State.recordHandler_feedReturns (r : OpResult) (s : State) : (State.recordHandler r s).feedReturns = s.feedReturns := (rfl)
@[simp] theorem State.recordHandler_heldCommand (r : OpResult) (s : State) : (State.recordHandler r s).heldCommand = s.heldCommand := (rfl)
@[simp] theorem State.recordHandler_frameBytes (r : OpResult) (s : State) : (State.recordHandler r s).frameBytes = s.frameBytes := (rfl)
@[simp] theorem State.recordHandler_lastFrame (r : OpResult) (s : State) : (State.recordHandler r s).lastFrame = s.lastFrame := (rfl)

/-! ### `setHandler` -/

@[simp] theorem State.setHandler_st (h : List (List Instr)) (s : State) : (State.setHandler h s).st = s.st := (rfl)
@[simp] theorem State.setHandler_cur (h : List (List Instr)) (s : State) : (State.setHandler h s).cur = s.cur := (rfl)
@[simp] theorem State.setHandler_exp (h : List (List Instr)) (s : State) : (State.setHandler h s).exp = s.exp := (rfl)
@[simp] theorem State.setHandler_rxbuf (h : List (List Instr)) (s : State) : (State.setHandler h s).rxbuf = s.rxbuf := (rfl)
@[simp] theorem State.setHandler_txbuf (h : List (List Instr)) (s : State) : (State.setHandler h s).txbuf = s.txbuf := (rfl)
@[simp] theorem State.setHandler_txlen (h : List (List Instr)) (s : State) : (State.setHandler h s).txlen = s.txlen := (rfl)
@[simp] theorem State.setHandler_os (h : List (List Instr)) (s : State) : (State.setHandler h s).os = s.os := (rfl)
@[simp] theorem State.setHandler_crcParams (h : List (List Instr)) (s : State) : (State.setHandler h s).crcParams = s.crcParams := (rfl)
@[simp] theorem State.setHandler_tx (h : List (List Instr)) (s : State) : (State.setHandler h s).tx = s.tx := (rfl)
@[simp] theorem State.setHandler_dlv (h : List (List Instr)) (s : State) : (State.setHandler h s).dlv = s.dlv := (rfl)
@[simp] theorem State.setHandler_results (h : List (List Instr)) (s : State) : (State.setHandler h s).results = s.results := (rfl)
@[simp] theorem State.setHandler_handlerResults (h : List (List Instr)) (s : State) : (State.setHandler h s).handlerResults = s.handlerResults := (rfl)
@[simp] theorem State.setHandler_handler (h : List (List Instr)) (s : State) : (State.setHandler h s).handler = h := (rfl)
@[simp] theorem State.setHandler_inputs (h : List (List Instr)) (s : State) : (State.setHandler h s).inputs = s.inputs := (rfl)
@[simp] theorem State.setHandler_contended (h : List (List Instr)) (s : State) : (State.setHandler h s).contended = s.contended := (rfl)
@[simp] theorem State.setHandler_feedHit (h : List (List Instr)) (s : State) : (State.setHandler h s).feedHit = s.feedHit := (rfl)
@[simp] theorem State.setHandler_feedReturns (h : List (List Instr)) (s : State) : (State.setHandler h s).feedReturns = s.feedReturns := (rfl)
@[simp] theorem State.setHandler_heldCommand (h : List (List Instr)) (s : State) : (State.setHandler h s).heldCommand = s.heldCommand := (rfl)
@[simp] theorem State.setHandler_frameBytes (h : List (List Instr)) (s : State) : (State.setHandler h s).frameBytes = s.frameBytes := (rfl)
@[simp] theorem State.setHandler_lastFrame (h : List (List Instr)) (s : State) : (State.setHandler h s).lastFrame = s.lastFrame := (rfl)

/-! ### `setInputs` -/

@[simp] theorem State.setInputs_st (q : List Request) (s : State) : (State.setInputs q s).st = s.st := (rfl)
@[simp] theorem State.setInputs_cur (q : List Request) (s : State) : (State.setInputs q s).cur = s.cur := (rfl)
@[simp] theorem State.setInputs_exp (q : List Request) (s : State) : (State.setInputs q s).exp = s.exp := (rfl)
@[simp] theorem State.setInputs_rxbuf (q : List Request) (s : State) : (State.setInputs q s).rxbuf = s.rxbuf := (rfl)
@[simp] theorem State.setInputs_txbuf (q : List Request) (s : State) : (State.setInputs q s).txbuf = s.txbuf := (rfl)
@[simp] theorem State.setInputs_txlen (q : List Request) (s : State) : (State.setInputs q s).txlen = s.txlen := (rfl)
@[simp] theorem State.setInputs_os (q : List Request) (s : State) : (State.setInputs q s).os = s.os := (rfl)
@[simp] theorem State.setInputs_crcParams (q : List Request) (s : State) : (State.setInputs q s).crcParams = s.crcParams := (rfl)
@[simp] theorem State.setInputs_tx (q : List Request) (s : State) : (State.setInputs q s).tx = s.tx := (rfl)
@[simp] theorem State.setInputs_dlv (q : List Request) (s : State) : (State.setInputs q s).dlv = s.dlv := (rfl)
@[simp] theorem State.setInputs_results (q : List Request) (s : State) : (State.setInputs q s).results = s.results := (rfl)
@[simp] theorem State.setInputs_handlerResults (q : List Request) (s : State) : (State.setInputs q s).handlerResults = s.handlerResults := (rfl)
@[simp] theorem State.setInputs_handler (q : List Request) (s : State) : (State.setInputs q s).handler = s.handler := (rfl)
@[simp] theorem State.setInputs_inputs (q : List Request) (s : State) : (State.setInputs q s).inputs = q := (rfl)
@[simp] theorem State.setInputs_contended (q : List Request) (s : State) : (State.setInputs q s).contended = s.contended := (rfl)
@[simp] theorem State.setInputs_feedHit (q : List Request) (s : State) : (State.setInputs q s).feedHit = s.feedHit := (rfl)
@[simp] theorem State.setInputs_feedReturns (q : List Request) (s : State) : (State.setInputs q s).feedReturns = s.feedReturns := (rfl)
@[simp] theorem State.setInputs_heldCommand (q : List Request) (s : State) : (State.setInputs q s).heldCommand = s.heldCommand := (rfl)
@[simp] theorem State.setInputs_frameBytes (q : List Request) (s : State) : (State.setInputs q s).frameBytes = s.frameBytes := (rfl)
@[simp] theorem State.setInputs_lastFrame (q : List Request) (s : State) : (State.setInputs q s).lastFrame = s.lastFrame := (rfl)

/-! ### `setHeld` -/

@[simp] theorem State.setHeld_st (h : List Byte) (s : State) : (State.setHeld h s).st = s.st := (rfl)
@[simp] theorem State.setHeld_cur (h : List Byte) (s : State) : (State.setHeld h s).cur = s.cur := (rfl)
@[simp] theorem State.setHeld_exp (h : List Byte) (s : State) : (State.setHeld h s).exp = s.exp := (rfl)
@[simp] theorem State.setHeld_rxbuf (h : List Byte) (s : State) : (State.setHeld h s).rxbuf = s.rxbuf := (rfl)
@[simp] theorem State.setHeld_txbuf (h : List Byte) (s : State) : (State.setHeld h s).txbuf = s.txbuf := (rfl)
@[simp] theorem State.setHeld_txlen (h : List Byte) (s : State) : (State.setHeld h s).txlen = s.txlen := (rfl)
@[simp] theorem State.setHeld_os (h : List Byte) (s : State) : (State.setHeld h s).os = s.os := (rfl)
@[simp] theorem State.setHeld_crcParams (h : List Byte) (s : State) : (State.setHeld h s).crcParams = s.crcParams := (rfl)
@[simp] theorem State.setHeld_tx (h : List Byte) (s : State) : (State.setHeld h s).tx = s.tx := (rfl)
@[simp] theorem State.setHeld_dlv (h : List Byte) (s : State) : (State.setHeld h s).dlv = s.dlv := (rfl)
@[simp] theorem State.setHeld_results (h : List Byte) (s : State) : (State.setHeld h s).results = s.results := (rfl)
@[simp] theorem State.setHeld_handlerResults (h : List Byte) (s : State) : (State.setHeld h s).handlerResults = s.handlerResults := (rfl)
@[simp] theorem State.setHeld_handler (h : List Byte) (s : State) : (State.setHeld h s).handler = s.handler := (rfl)
@[simp] theorem State.setHeld_inputs (h : List Byte) (s : State) : (State.setHeld h s).inputs = s.inputs := (rfl)
@[simp] theorem State.setHeld_contended (h : List Byte) (s : State) : (State.setHeld h s).contended = s.contended := (rfl)
@[simp] theorem State.setHeld_feedHit (h : List Byte) (s : State) : (State.setHeld h s).feedHit = s.feedHit := (rfl)
@[simp] theorem State.setHeld_feedReturns (h : List Byte) (s : State) : (State.setHeld h s).feedReturns = s.feedReturns := (rfl)
@[simp] theorem State.setHeld_heldCommand (h : List Byte) (s : State) : (State.setHeld h s).heldCommand = h := (rfl)
@[simp] theorem State.setHeld_frameBytes (h : List Byte) (s : State) : (State.setHeld h s).frameBytes = s.frameBytes := (rfl)
@[simp] theorem State.setHeld_lastFrame (h : List Byte) (s : State) : (State.setHeld h s).lastFrame = s.lastFrame := (rfl)

/-! ### `setContended` -/

@[simp] theorem State.setContended_st (v : Bool) (s : State) : (State.setContended v s).st = s.st := (rfl)
@[simp] theorem State.setContended_cur (v : Bool) (s : State) : (State.setContended v s).cur = s.cur := (rfl)
@[simp] theorem State.setContended_exp (v : Bool) (s : State) : (State.setContended v s).exp = s.exp := (rfl)
@[simp] theorem State.setContended_rxbuf (v : Bool) (s : State) : (State.setContended v s).rxbuf = s.rxbuf := (rfl)
@[simp] theorem State.setContended_txbuf (v : Bool) (s : State) : (State.setContended v s).txbuf = s.txbuf := (rfl)
@[simp] theorem State.setContended_txlen (v : Bool) (s : State) : (State.setContended v s).txlen = s.txlen := (rfl)
@[simp] theorem State.setContended_os (v : Bool) (s : State) : (State.setContended v s).os = s.os := (rfl)
@[simp] theorem State.setContended_crcParams (v : Bool) (s : State) : (State.setContended v s).crcParams = s.crcParams := (rfl)
@[simp] theorem State.setContended_tx (v : Bool) (s : State) : (State.setContended v s).tx = s.tx := (rfl)
@[simp] theorem State.setContended_dlv (v : Bool) (s : State) : (State.setContended v s).dlv = s.dlv := (rfl)
@[simp] theorem State.setContended_results (v : Bool) (s : State) : (State.setContended v s).results = s.results := (rfl)
@[simp] theorem State.setContended_handlerResults (v : Bool) (s : State) : (State.setContended v s).handlerResults = s.handlerResults := (rfl)
@[simp] theorem State.setContended_handler (v : Bool) (s : State) : (State.setContended v s).handler = s.handler := (rfl)
@[simp] theorem State.setContended_inputs (v : Bool) (s : State) : (State.setContended v s).inputs = s.inputs := (rfl)
@[simp] theorem State.setContended_contended (v : Bool) (s : State) : (State.setContended v s).contended = v := (rfl)
@[simp] theorem State.setContended_feedHit (v : Bool) (s : State) : (State.setContended v s).feedHit = s.feedHit := (rfl)
@[simp] theorem State.setContended_feedReturns (v : Bool) (s : State) : (State.setContended v s).feedReturns = s.feedReturns := (rfl)
@[simp] theorem State.setContended_heldCommand (v : Bool) (s : State) : (State.setContended v s).heldCommand = s.heldCommand := (rfl)
@[simp] theorem State.setContended_frameBytes (v : Bool) (s : State) : (State.setContended v s).frameBytes = s.frameBytes := (rfl)
@[simp] theorem State.setContended_lastFrame (v : Bool) (s : State) : (State.setContended v s).lastFrame = s.lastFrame := (rfl)

/-! ### `setFeedHit` -/

@[simp] theorem State.setFeedHit_st (v : Bool) (s : State) : (State.setFeedHit v s).st = s.st := (rfl)
@[simp] theorem State.setFeedHit_cur (v : Bool) (s : State) : (State.setFeedHit v s).cur = s.cur := (rfl)
@[simp] theorem State.setFeedHit_exp (v : Bool) (s : State) : (State.setFeedHit v s).exp = s.exp := (rfl)
@[simp] theorem State.setFeedHit_rxbuf (v : Bool) (s : State) : (State.setFeedHit v s).rxbuf = s.rxbuf := (rfl)
@[simp] theorem State.setFeedHit_txbuf (v : Bool) (s : State) : (State.setFeedHit v s).txbuf = s.txbuf := (rfl)
@[simp] theorem State.setFeedHit_txlen (v : Bool) (s : State) : (State.setFeedHit v s).txlen = s.txlen := (rfl)
@[simp] theorem State.setFeedHit_os (v : Bool) (s : State) : (State.setFeedHit v s).os = s.os := (rfl)
@[simp] theorem State.setFeedHit_crcParams (v : Bool) (s : State) : (State.setFeedHit v s).crcParams = s.crcParams := (rfl)
@[simp] theorem State.setFeedHit_tx (v : Bool) (s : State) : (State.setFeedHit v s).tx = s.tx := (rfl)
@[simp] theorem State.setFeedHit_dlv (v : Bool) (s : State) : (State.setFeedHit v s).dlv = s.dlv := (rfl)
@[simp] theorem State.setFeedHit_results (v : Bool) (s : State) : (State.setFeedHit v s).results = s.results := (rfl)
@[simp] theorem State.setFeedHit_handlerResults (v : Bool) (s : State) : (State.setFeedHit v s).handlerResults = s.handlerResults := (rfl)
@[simp] theorem State.setFeedHit_handler (v : Bool) (s : State) : (State.setFeedHit v s).handler = s.handler := (rfl)
@[simp] theorem State.setFeedHit_inputs (v : Bool) (s : State) : (State.setFeedHit v s).inputs = s.inputs := (rfl)
@[simp] theorem State.setFeedHit_contended (v : Bool) (s : State) : (State.setFeedHit v s).contended = s.contended := (rfl)
@[simp] theorem State.setFeedHit_feedHit (v : Bool) (s : State) : (State.setFeedHit v s).feedHit = v := (rfl)
@[simp] theorem State.setFeedHit_feedReturns (v : Bool) (s : State) : (State.setFeedHit v s).feedReturns = s.feedReturns := (rfl)
@[simp] theorem State.setFeedHit_heldCommand (v : Bool) (s : State) : (State.setFeedHit v s).heldCommand = s.heldCommand := (rfl)
@[simp] theorem State.setFeedHit_frameBytes (v : Bool) (s : State) : (State.setFeedHit v s).frameBytes = s.frameBytes := (rfl)
@[simp] theorem State.setFeedHit_lastFrame (v : Bool) (s : State) : (State.setFeedHit v s).lastFrame = s.lastFrame := (rfl)

/-! ### `returnFeed` -/

@[simp] theorem State.returnFeed_st (s : State) : (State.returnFeed s).st = s.st := (rfl)
@[simp] theorem State.returnFeed_cur (s : State) : (State.returnFeed s).cur = s.cur := (rfl)
@[simp] theorem State.returnFeed_exp (s : State) : (State.returnFeed s).exp = s.exp := (rfl)
@[simp] theorem State.returnFeed_rxbuf (s : State) : (State.returnFeed s).rxbuf = s.rxbuf := (rfl)
@[simp] theorem State.returnFeed_txbuf (s : State) : (State.returnFeed s).txbuf = s.txbuf := (rfl)
@[simp] theorem State.returnFeed_txlen (s : State) : (State.returnFeed s).txlen = s.txlen := (rfl)
@[simp] theorem State.returnFeed_os (s : State) : (State.returnFeed s).os = s.os := (rfl)
@[simp] theorem State.returnFeed_crcParams (s : State) : (State.returnFeed s).crcParams = s.crcParams := (rfl)
@[simp] theorem State.returnFeed_tx (s : State) : (State.returnFeed s).tx = s.tx := (rfl)
@[simp] theorem State.returnFeed_dlv (s : State) : (State.returnFeed s).dlv = s.dlv := (rfl)
@[simp] theorem State.returnFeed_results (s : State) : (State.returnFeed s).results = s.results := (rfl)
@[simp] theorem State.returnFeed_handlerResults (s : State) : (State.returnFeed s).handlerResults = s.handlerResults := (rfl)
@[simp] theorem State.returnFeed_handler (s : State) : (State.returnFeed s).handler = s.handler := (rfl)
@[simp] theorem State.returnFeed_inputs (s : State) : (State.returnFeed s).inputs = s.inputs := (rfl)
@[simp] theorem State.returnFeed_contended (s : State) : (State.returnFeed s).contended = s.contended := (rfl)
@[simp] theorem State.returnFeed_feedHit (s : State) : (State.returnFeed s).feedHit = false := (rfl)
@[simp] theorem State.returnFeed_feedReturns (s : State) : (State.returnFeed s).feedReturns = s.feedReturns ++ [s.feedHit] := (rfl)
@[simp] theorem State.returnFeed_heldCommand (s : State) : (State.returnFeed s).heldCommand = s.heldCommand := (rfl)
@[simp] theorem State.returnFeed_frameBytes (s : State) : (State.returnFeed s).frameBytes = s.frameBytes := (rfl)
@[simp] theorem State.returnFeed_lastFrame (s : State) : (State.returnFeed s).lastFrame = s.lastFrame := (rfl)

/-! ### `initialise` -/

@[simp] theorem State.initialise_st (s : State) : (State.initialise s).st = .awaitingStart := (rfl)
@[simp] theorem State.initialise_cur (s : State) : (State.initialise s).cur = 0#11 := (rfl)
@[simp] theorem State.initialise_exp (s : State) : (State.initialise s).exp = 0#11 := (rfl)
@[simp] theorem State.initialise_rxbuf (s : State) : (State.initialise s).rxbuf = s.rxbuf := (rfl)
@[simp] theorem State.initialise_txbuf (s : State) : (State.initialise s).txbuf = s.txbuf := (rfl)
@[simp] theorem State.initialise_txlen (s : State) : (State.initialise s).txlen = 0#11 := (rfl)
@[simp] theorem State.initialise_os (s : State) : (State.initialise s).os = false := (rfl)
@[simp] theorem State.initialise_crcParams (s : State) : (State.initialise s).crcParams = s.crcParams := (rfl)
@[simp] theorem State.initialise_tx (s : State) : (State.initialise s).tx = s.tx := (rfl)
@[simp] theorem State.initialise_dlv (s : State) : (State.initialise s).dlv = s.dlv := (rfl)
@[simp] theorem State.initialise_results (s : State) : (State.initialise s).results = s.results := (rfl)
@[simp] theorem State.initialise_handlerResults (s : State) : (State.initialise s).handlerResults = s.handlerResults := (rfl)
@[simp] theorem State.initialise_handler (s : State) : (State.initialise s).handler = s.handler := (rfl)
@[simp] theorem State.initialise_inputs (s : State) : (State.initialise s).inputs = s.inputs := (rfl)
@[simp] theorem State.initialise_contended (s : State) : (State.initialise s).contended = s.contended := (rfl)
@[simp] theorem State.initialise_feedHit (s : State) : (State.initialise s).feedHit = s.feedHit := (rfl)
@[simp] theorem State.initialise_feedReturns (s : State) : (State.initialise s).feedReturns = s.feedReturns := (rfl)
@[simp] theorem State.initialise_heldCommand (s : State) : (State.initialise s).heldCommand = s.heldCommand := (rfl)
@[simp] theorem State.initialise_frameBytes (s : State) : (State.initialise s).frameBytes = [] := (rfl)
@[simp] theorem State.initialise_lastFrame (s : State) : (State.initialise s).lastFrame = none := (rfl)

end Sys2Proof.Machine
end

