-- ==== Sys2Proof/Laws/Memory.lean ====
section
/-! SUPPORT. The laws of the byte buffers: a read after a write, and that writes keep the canonical form (20_memory.md R54, R55). -/

namespace Sys2Proof.Machine

/-! ### One byte -/

/-- A read after a write: the byte written, or what stood there before. -/
theorem Memory.readByte_writeByte (m : Memory) (i a : Nat) (b : Byte) :
    (m.writeByte i b).readByte a = if i = a then some b else m.readByte a := by
  induction m with
  | nil => simp [Memory.writeByte, Memory.readByte]
  | cons x m ih =>
    obtain ⟨j, c⟩ := x
    simp only [Memory.writeByte]
    split
    · simp [Memory.readByte]
    · split
      · subst_vars
        simp only [Memory.readByte]
        split <;> simp_all
      · simp only [Memory.readByte, ih]
        split <;> split <;> simp_all

@[simp] theorem Memory.readByte_writeByte_same (m : Memory) (i : Nat) (b : Byte) :
    (m.writeByte i b).readByte i = some b := by
  simp [Memory.readByte_writeByte]

theorem Memory.readByte_writeByte_other (m : Memory) {i a : Nat} (b : Byte) (h : a ≠ i) :
    (m.writeByte i b).readByte a = m.readByte a := by
  simp [Memory.readByte_writeByte, Ne.symm h]

/-- The entries after a write: the new pair, and entries that stood there before. -/
theorem Memory.mem_writeByte {m : Memory} {i : Nat} {b : Byte} {x : Host.Cell} (h : x ∈ m.writeByte i b) :
    x = (i, b) ∨ x ∈ m := by
  induction m with
  | nil => simpa [Memory.writeByte] using h
  | cons y m ih =>
    obtain ⟨j, c⟩ := y
    simp only [Memory.writeByte] at h
    split at h
    · simpa using h
    · split at h
      · rcases List.mem_cons.1 h with h | h
        · exact .inl h
        · exact .inr (List.mem_cons_of_mem _ h)
      · rcases List.mem_cons.1 h with h | h
        · exact .inr (h ▸ List.mem_cons_self)
        · exact (ih h).imp id (List.mem_cons_of_mem _)

theorem Memory.wf_iff (cap : Nat) (m : Memory) :
    m.wf cap = true ↔ m.Pairwise (fun x y => x.1 < y.1) ∧ ∀ x ∈ m, x.1 < cap := by
  simp [Memory.wf]

/-- A write inside the buffer keeps the canonical form. -/
theorem Memory.wf_writeByte {cap i : Nat} {m : Memory} (b : Byte) (h : m.wf cap = true) (hi : i < cap) :
    (m.writeByte i b).wf cap = true := by
  rw [Memory.wf_iff] at h ⊢
  obtain ⟨hs, hc⟩ := h
  refine ⟨?_, fun x hx => ?_⟩
  · clear hc
    induction m with
    | nil => simp [Memory.writeByte]
    | cons y m ih =>
      obtain ⟨j, c⟩ := y
      obtain ⟨hj, ht⟩ := List.pairwise_cons.1 hs
      simp only [Memory.writeByte]
      split
      · rename_i hij
        refine List.pairwise_cons.2 ⟨fun x hx => ?_, List.pairwise_cons.2 ⟨hj, ht⟩⟩
        rcases List.mem_cons.1 hx with rfl | hx
        · exact hij
        · exact Nat.lt_trans hij (hj x hx)
      · split
        · rename_i _ hij
          subst hij
          exact List.pairwise_cons.2 ⟨hj, ht⟩
        · refine List.pairwise_cons.2 ⟨fun x hx => ?_, ih ht⟩
          rcases Memory.mem_writeByte hx with rfl | hx
          · simp only; omega
          · exact hj x hx
  · rcases Memory.mem_writeByte hx with rfl | hx
    · exact hi
    · exact hc x hx

/-! ### Several bytes -/

@[simp] theorem Memory.readBytes_zero (m : Memory) (i : Nat) : m.readBytes i 0 = some [] := rfl

/-- A read of one byte more at the front. -/
theorem Memory.readBytes_succ (m : Memory) (i n : Nat) :
    m.readBytes i (n + 1) = (m.readByte i).bind fun b => (m.readBytes (i + 1) n).map (b :: ·) := by
  simp only [Memory.readBytes]
  cases m.readByte i <;> cases m.readBytes (i + 1) n <;> rfl

/-- A range that reads as `bs` is the range whose every byte reads as the byte of `bs`. -/
theorem Memory.readBytes_eq_some_iff (m : Memory) (i n : Nat) (bs : List Byte) :
    m.readBytes i n = some bs ↔ bs.length = n ∧ ∀ k, k < n → m.readByte (i + k) = bs[k]? := by
  induction n generalizing i bs with
  | zero =>
    simp only [Memory.readBytes_zero, Option.some.injEq, Nat.not_lt_zero, false_implies, implies_true, and_true]
    exact ⟨fun h => h ▸ rfl, fun h => (List.eq_nil_of_length_eq_zero h).symm⟩
  | succ n ih =>
    rw [Memory.readBytes_succ]
    constructor
    · intro h
      obtain ⟨b, hb, h⟩ := Option.bind_eq_some_iff.1 h
      obtain ⟨cs, hcs, rfl⟩ := Option.map_eq_some_iff.1 h
      obtain ⟨hl, hr⟩ := (ih (i + 1) cs).1 hcs
      refine ⟨by simp [hl], fun k hk => ?_⟩
      cases k with
      | zero => simpa using hb
      | succ k =>
        have := hr k (by omega)
        rw [show i + (k + 1) = i + 1 + k by omega, this]
        simp
    · rintro ⟨hl, hr⟩
      cases bs with
      | nil => simp at hl
      | cons b cs =>
        have h0 := hr 0 (by omega)
        simp only [Nat.add_zero, List.getElem?_cons_zero] at h0
        have hcs : m.readBytes (i + 1) n = some cs := by
          refine (ih (i + 1) cs).2 ⟨by simpa using hl, fun k hk => ?_⟩
          have := hr (k + 1) (by omega)
          rw [show i + 1 + k = i + (k + 1) by omega, this]
          simp
        simp [h0, hcs]

theorem Memory.length_of_readBytes {m : Memory} {i n : Nat} {bs : List Byte} (h : m.readBytes i n = some bs) :
    bs.length = n := ((Memory.readBytes_eq_some_iff m i n bs).1 h).1

/-- Two buffers that agree on a range read the same there. -/
theorem Memory.readBytes_congr {m m' : Memory} {i n : Nat} (h : ∀ k, k < n → m'.readByte (i + k) = m.readByte (i + k)) :
    m'.readBytes i n = m.readBytes i n := by
  induction n generalizing i with
  | zero => rfl
  | succ n ih =>
    have h0 := h 0 (by omega)
    have ht := ih (i := i + 1) fun k hk => by
      have := h (k + 1) (by omega)
      simpa [Nat.add_assoc, Nat.add_comm 1 k] using this
    simp only [Nat.add_zero] at h0
    simp [Memory.readBytes_succ, h0, ht]

/-- A read of two ranges in a row. -/
theorem Memory.readBytes_append {m : Memory} {i n k : Nat} {bs cs : List Byte} (hb : m.readBytes i n = some bs)
    (hc : m.readBytes (i + n) k = some cs) : m.readBytes i (n + k) = some (bs ++ cs) := by
  rw [Memory.readBytes_eq_some_iff] at hb hc ⊢
  refine ⟨by simp [hb.1, hc.1], fun j hj => ?_⟩
  by_cases hjn : j < n
  · rw [hb.2 j hjn, List.getElem?_append_left (by omega)]
  · have := hc.2 (j - n) (by omega)
    rw [show i + n + (j - n) = i + j by omega] at this
    rw [this, List.getElem?_append_right (by omega), hb.1]

/-- A part of a range that reads as `bs` reads as the part of `bs`. -/
theorem Memory.readBytes_slice {m : Memory} {i n j k : Nat} {bs : List Byte} (h : m.readBytes i n = some bs)
    (hk : j + k ≤ n) : m.readBytes (i + j) k = some ((bs.drop j).take k) := by
  rw [Memory.readBytes_eq_some_iff] at h ⊢
  refine ⟨by simp [h.1]; omega, fun l hl => ?_⟩
  rw [show i + j + l = i + (j + l) by omega, h.2 (j + l) (by omega)]
  simp [hl]

/-- A byte of a range that reads as `bs`. -/
theorem Memory.readByte_of_readBytes {m : Memory} {i n j : Nat} {bs : List Byte} (h : m.readBytes i n = some bs)
    (hj : j < n) : m.readByte (i + j) = bs[j]? :=
  ((Memory.readBytes_eq_some_iff m i n bs).1 h).2 j hj

@[simp] theorem Memory.writeBytes_nil (m : Memory) (i : Nat) : m.writeBytes i [] = m := rfl

theorem Memory.writeBytes_cons (m : Memory) (i : Nat) (b : Byte) (bs : List Byte) :
    m.writeBytes i (b :: bs) = (m.writeByte i b).writeBytes (i + 1) bs := rfl

/-- Writes of two sequences in a row. -/
theorem Memory.writeBytes_append (m : Memory) (i : Nat) (bs cs : List Byte) :
    m.writeBytes i (bs ++ cs) = (m.writeBytes i bs).writeBytes (i + bs.length) cs := by
  induction bs generalizing m i with
  | nil => simp
  | cons b bs ih => simp [Memory.writeBytes_cons, ih, Nat.add_assoc, Nat.add_comm 1]

/-- A read outside the bytes written. -/
theorem Memory.readByte_writeBytes_other (m : Memory) (i a : Nat) (bs : List Byte) (h : a < i ∨ i + bs.length ≤ a) :
    (m.writeBytes i bs).readByte a = m.readByte a := by
  induction bs generalizing m i with
  | nil => rfl
  | cons b bs ih =>
    simp only [List.length_cons] at h
    rw [Memory.writeBytes_cons, ih _ _ (by omega), Memory.readByte_writeByte_other _ _ (by omega)]

/-- A read of one of the bytes written. -/
theorem Memory.readByte_writeBytes_same (m : Memory) (i k : Nat) (bs : List Byte) (h : k < bs.length) :
    (m.writeBytes i bs).readByte (i + k) = bs[k]? := by
  induction bs generalizing m i k with
  | nil => simp at h
  | cons b bs ih =>
    rw [Memory.writeBytes_cons]
    cases k with
    | zero =>
      rw [Memory.readByte_writeBytes_other _ _ _ _ (by omega)]
      simp
    | succ k =>
      rw [show i + (k + 1) = i + 1 + k by omega, ih _ _ _ (by simpa using h)]
      simp

/-- A read of exactly the bytes written. -/
theorem Memory.readBytes_writeBytes (m : Memory) (i : Nat) (bs : List Byte) :
    (m.writeBytes i bs).readBytes i bs.length = some bs :=
  (Memory.readBytes_eq_some_iff _ _ _ _).2 ⟨rfl, fun k hk => Memory.readByte_writeBytes_same m i k bs hk⟩

/-- Writes inside the buffer keep the canonical form. -/
theorem Memory.wf_writeBytes {cap i : Nat} {m : Memory} {bs : List Byte} (h : m.wf cap = true) (hi : i + bs.length ≤ cap) :
    (m.writeBytes i bs).wf cap = true := by
  induction bs generalizing m i with
  | nil => exact h
  | cons b bs ih =>
    simp only [List.length_cons] at hi
    exact ih (Memory.wf_writeByte b h (by omega)) (by omega)

/-- A byte appended to a range that reads as `bs`. -/
theorem Memory.readBytes_writeByte_snoc {m : Memory} {n : Nat} {bs : List Byte} (b : Byte)
    (h : m.readBytes 0 n = some bs) : (m.writeByte n b).readBytes 0 (n + 1) = some (bs ++ [b]) := by
  refine Memory.readBytes_append ((Memory.readBytes_congr fun k hk => ?_).trans h) ?_
  · exact Memory.readByte_writeByte_other _ _ (by omega)
  · simp [Memory.readBytes_succ]

end Sys2Proof.Machine
end

