-- ==== Sys2Proof/Laws/Ops.lean ====
section
/-! SUPPORT. What each shared operation can do, said once: outcomes, the accesses to RXBUF, the encoder's operations, the reaction to
a receive error, the handler, and RXB case by case as in the transition table of 41_decoder.md R145. -/

namespace Sys2Proof.Machine

/-! ### Outcomes -/

section Outcomes
variable {α β γ : Type}

@[simp] theorem andThen_next (a : α) (k : α → Host.Outcome β Fault Refusal) : andThen (.next a) k = k a := rfl
@[simp] theorem andThen_fault (f : Fault) (k : α → Host.Outcome β Fault Refusal) : andThen (.fault f) k = .fault f := rfl
@[simp] theorem andThen_refused (r : Refusal) (k : α → Host.Outcome β Fault Refusal) : andThen (.refused r) k = .refused r := rfl

theorem andThen_assoc (o : Host.Outcome α Fault Refusal) (k : α → Host.Outcome β Fault Refusal)
    (l : β → Host.Outcome γ Fault Refusal) : andThen (andThen o k) l = andThen o fun a => andThen (k a) l := by
  cases o <;> rfl

@[simp] theorem andThen_self (o : Host.Outcome α Fault Refusal) : andThen o .next = o := by cases o <;> rfl

theorem andThen_eq_next {o : Host.Outcome α Fault Refusal} {k : α → Host.Outcome β Fault Refusal} {b : β} :
    andThen o k = .next b ↔ ∃ a, o = .next a ∧ k a = .next b := by
  cases o <;> simp [andThen]

theorem andThen_eq_fault {o : Host.Outcome α Fault Refusal} {k : α → Host.Outcome β Fault Refusal} {f : Fault} :
    andThen o k = .fault f ↔ o = .fault f ∨ ∃ a, o = .next a ∧ k a = .fault f := by
  cases o <;> simp [andThen]

end Outcomes

@[simp] theorem finish_eq (q : State × OpResult) : finish q = q.1.record q.2 := rfl

/-- A host operation that goes on: its answer, recorded. -/
theorem finishOp_eq_next {a : Answer} {t : State} : finishOp a = .next t ↔ ∃ q, a = .next q ∧ t = q.1.record q.2 := by
  simp only [finishOp, andThen_eq_next, finish_eq, Host.Outcome.next.injEq, eq_comm (a := t)]

theorem finishOp_eq_fault {a : Answer} {f : Fault} : finishOp a = .fault f ↔ a = .fault f := by
  simp [finishOp, andThen_eq_fault]

/-! ### Counts -/

/-- An 11-bit count below its top value, moved on by one. -/
theorem toNat_succ {c : Count} (h : c.toNat < 2047) : (c + 1#11).toNat = c.toNat + 1 := by
  rw [BitVec.toNat_add, BitVec.toNat_ofNat]
  omega

/-- An 11-bit count, less a constant that it holds. -/
theorem toNat_minus {c : Count} {k : Nat} (hk : k < 2048) (h : k ≤ c.toNat) : (c - BitVec.ofNat 11 k).toNat = c.toNat - k := by
  rw [BitVec.toNat_sub, BitVec.toNat_ofNat]
  have := c.isLt
  omega

/-- A number below 2048 as an 11-bit count. -/
theorem toNat_count {n : Nat} (h : n < 2048) : (BitVec.ofNat 11 n).toNat = n := by
  rw [BitVec.toNat_ofNat]
  omega

/-! ### The accesses to RXBUF -/

section Accesses
variable {α : Type} {s : State}

theorem storeRx_of_lt (b : Byte) (k : State → Host.Outcome α Fault Refusal) (h : s.cur.toNat < 1030) :
    storeRx b s k = k (s.pushRx b) := by simp [storeRx, h]

theorem storeRx_eq_next {b : Byte} {k : State → Host.Outcome α Fault Refusal} {a : α} (h : storeRx b s k = .next a) :
    s.cur.toNat < 1030 ∧ k (s.pushRx b) = .next a := by
  unfold storeRx at h
  split at h
  · exact ⟨‹_›, h⟩
  · cases h

theorem readRx_of_some {i : Nat} {b : Byte} (k : Byte → Host.Outcome α Fault Refusal) (hi : i < 1030)
    (h : s.rxbuf.readByte i = some b) : readRx s i k = k b := by simp [readRx, hi, h]

theorem readRx_eq_next {i : Nat} {k : Byte → Host.Outcome α Fault Refusal} {a : α} (h : readRx s i k = .next a) :
    i < 1030 ∧ ∃ b, s.rxbuf.readByte i = some b ∧ k b = .next a := by
  unfold readRx at h
  split at h
  · split at h
    · exact ⟨‹_›, _, ‹_›, h⟩
    · cases h
  · cases h

theorem readRxRange_of_some {i n : Nat} {bs : List Byte} (k : List Byte → Host.Outcome α Fault Refusal)
    (hi : i + n ≤ 1030) (h : s.rxbuf.readBytes i n = some bs) : readRxRange s i n k = k bs := by
  simp [readRxRange, hi, h]

theorem readRxRange_eq_next {i n : Nat} {k : List Byte → Host.Outcome α Fault Refusal} {a : α}
    (h : readRxRange s i n k = .next a) : i + n ≤ 1030 ∧ ∃ bs, s.rxbuf.readBytes i n = some bs ∧ k bs = .next a := by
  unfold readRxRange at h
  split at h
  · split at h
    · exact ⟨‹_›, _, ‹_›, h⟩
    · cases h
  · cases h

end Accesses

/-! ### The encoder -/

theorem encOp_of_le {p : List Byte} {s : State} (h : p.length ≤ 1024) :
    encOp p s = (sendFrame (frame s.crcParams p s.os) s, OpResult.mkFlag .ok s.os) := by
  simp only [encOp, Config.maxPayload]
  rw [if_neg (by omega)]

theorem encOp_of_gt {p : List Byte} {s : State} (h : 1024 < p.length) :
    encOp p s = (s, OpResult.plain .bufferOverflow) := by
  simp only [encOp, Config.maxPayload]
  rw [if_pos h]

/-- The error frame's path never fails: it sends the error frame and reports the flag (R108, R210). -/
theorem errf_eq (s : State) : errf s = (sendFrame (errFrame s.crcParams s.os) s, s.os) := by
  have h : errPayload.length ≤ 1024 := by decide
  simp [errf, encOp_of_le h, errFrame, OpResult.mkFlag]

theorem rejectFrame_eq (kind : ResultCode) (s : State) :
    rejectFrame kind s =
      (sendFrame (errFrame s.crcParams s.os) s.endFrame, OpResult.mkFlag kind s.os) := by
  simp [rejectFrame, errf_eq]

/-- RPT answers in two ways: nothing cached, or the cached bytes sent. -/
theorem rptOp_eq_next {s : State} {q : State × OpResult} (h : rptOp s = .next q) :
    q.2 = OpResult.plain .ok ∧ (s.txlen = 0#11 ∧ q.1 = s ∨
      s.txlen ≠ 0#11 ∧ s.txlen.toNat ≤ 1031 ∧ ∃ f, s.txbuf.readBytes 0 s.txlen.toNat = some f ∧ q.1 = s.txWrite f) := by
  unfold rptOp at h
  split at h
  · cases h; exact ⟨rfl, .inl ⟨‹_›, rfl⟩⟩
  · split at h
    · split at h
      · cases h; exact ⟨rfl, .inr ⟨‹_›, ‹_›, _, ‹_›, rfl⟩⟩
      · cases h
    · cases h

theorem rptOp_of_empty {s : State} (h : s.txlen = 0#11) : rptOp s = .next (s, OpResult.plain .ok) := by simp [rptOp, h]

theorem rptOp_of_cached {s : State} {f : List Byte} (h0 : s.txlen ≠ 0#11) (hl : s.txlen.toNat ≤ 1031)
    (h : s.txbuf.readBytes 0 s.txlen.toNat = some f) : rptOp s = .next (s.txWrite f, OpResult.plain .ok) := by
  unfold rptOp
  rw [if_neg h0, if_pos hl, h]

/-- The updates that the encoder side makes: cache, flag, sink, the record of the last frame, and nothing else. -/
structure EncoderStep (s t : State) : Prop where
  rest : ∃ m n o x l, t = { s with txbuf := m, txlen := n, os := o, tx := s.tx ++ x, lastFrame := l }

theorem EncoderStep.refl (s : State) : EncoderStep s s := ⟨s.txbuf, s.txlen, s.os, [], s.lastFrame, by simp⟩

theorem EncoderStep.sendFrame (f : List Byte) (s : State) : EncoderStep s (sendFrame f s) := ⟨_, _, _, [f], _, rfl⟩

theorem EncoderStep.txWrite (f : List Byte) (s : State) : EncoderStep s (s.txWrite f) :=
  ⟨s.txbuf, s.txlen, s.os, [f], s.lastFrame, rfl⟩

theorem encOp_step (p : List Byte) (s : State) : EncoderStep s (encOp p s).1 := by
  unfold encOp
  split
  · exact .refl s
  · exact .sendFrame _ s

theorem rptOp_step {s : State} {q : State × OpResult} (h : rptOp s = .next q) : EncoderStep s q.1 := by
  rcases (rptOp_eq_next h).2 with ⟨-, h⟩ | ⟨-, -, f, -, h⟩ <;> rw [h]
  · exact .refl s
  · exact .txWrite f s

/-- Whatever the handler issues changes the encoder's elements and the sink's history at most. -/
theorem handlerOp_step {i : Instr} {s : State} {q : State × OpResult} (h : handlerOp i s = .next q) :
    EncoderStep s q.1 := by
  cases i with
  | enc p => cases h; exact encOp_step p s
  | rpt => exact rptOp_step h
  | raw bytes => cases h; exact .txWrite bytes s
  | crc bytes => cases h; exact .refl s
  | setos => cases h; exact ⟨s.txbuf, s.txlen, true, [], s.lastFrame, by simp [setosOp, State.setOs]⟩
  | reserved _ => cases h; exact .refl s
  | rst => cases h
  | rxb _ => cases h
  | frame _ => cases h
  | errframe => cases h

/-- A run of the handler: encoder-side changes, and its results returned to it. -/
theorem runHandler_step {ops : List Instr} {s t : State} (h : runHandler ops s = .next t) :
    ∃ m n o x l y, t =
      { s with
        txbuf := m
        txlen := n
        os := o
        tx := s.tx ++ x
        lastFrame := l
        handlerResults := s.handlerResults ++ y } := by
  induction ops generalizing s with
  | nil =>
    have h : s = t := Host.Outcome.next.inj h
    exact ⟨s.txbuf, s.txlen, s.os, [], s.lastFrame, [], by simp [h]⟩
  | cons i ops ih =>
    obtain ⟨q, hq, h⟩ := andThen_eq_next.1 h
    obtain ⟨m, n, o, x, l, hx⟩ := (handlerOp_step hq).rest
    obtain ⟨m', n', o', x', l', y', rfl⟩ := ih h
    exact ⟨m', n', o', x ++ x', l', q.2 :: y', by simp [hx, State.recordHandler]⟩

/-- A delivery: the payload in the history, one answer of the handler used up, encoder-side changes. -/
theorem deliver_step {p : List Byte} {s t : State} (h : deliver p s = .next t) :
    ∃ m n o x l y, t =
      { s with
        txbuf := m
        txlen := n
        os := o
        tx := s.tx ++ x
        lastFrame := l
        dlv := s.dlv ++ [p]
        handlerResults := s.handlerResults ++ y
        handler := s.handler.tail } := by
  unfold deliver at h
  split at h
  · rename_i hs
    obtain rfl := (Host.Outcome.next.inj h).symm
    exact ⟨s.txbuf, s.txlen, s.os, [], s.lastFrame, [], by simp [State.logDelivery, hs]⟩
  · rename_i hs
    obtain ⟨m, n, o, x, l, y, rfl⟩ := runHandler_step h
    exact ⟨m, n, o, x, l, y, by simp [State.logDelivery, State.setHandler, hs]⟩

/-! ### RXB, row by row (41_decoder.md R145) -/

/-- What RXB can do before its result is recorded: the nine rows of the transition table. -/
inductive RxbRow (b : Byte) (s : State) : State × OpResult → Prop where
  | discarded (hst : s.st = .awaitingStart) (hb : b ≠ Config.stx) : RxbRow b s (s, OpResult.plain .ok)
  | started (hst : s.st = .awaitingStart) (hb : b = Config.stx) :
      RxbRow b s (s.startFrame b, OpResult.plain .ok)
  | headerByte (hst : s.st = .awaitingLength) (hc : s.cur.toNat < 1030) (hn : (s.cur + 1#11).toNat < 4) :
      RxbRow b s (s.pushRx b, OpResult.plain .ok)
  | headerLast (hst : s.st = .awaitingLength) (hc : s.cur.toNat < 1030) (hn : ¬ (s.cur + 1#11).toNat < 4) (h0 h1 h2 h3 : Byte)
      (r0 : (s.rxbuf.writeByte s.cur.toNat b).readByte 0 = some h0) (r1 : (s.rxbuf.writeByte s.cur.toNat b).readByte 1 = some h1)
      (r2 : (s.rxbuf.writeByte s.cur.toNat b).readByte 2 = some h2) (r3 : (s.rxbuf.writeByte s.cur.toNat b).readByte 3 = some h3) :
      RxbRow b s (validateHeader h0 h1 h2 h3 (s.pushRx b))
  | bodyByte (hst : s.st = .receiving) (hc : s.cur.toNat < 1030) (hn : s.cur + 1#11 < s.exp) :
      RxbRow b s (s.pushRx b, OpResult.plain .ok)
  | delivered (hst : s.st = .receiving) (hc : s.cur.toNat < 1030) (hn : ¬ s.cur + 1#11 < s.exp) (body : List Byte) (c0 c1 : Byte)
      (rb : (s.rxbuf.writeByte s.cur.toNat b).readBytes 0 (s.exp - 2#11).toNat = some body)
      (r0 : (s.rxbuf.writeByte s.cur.toNat b).readByte (s.exp - 2#11).toNat = some c0)
      (r1 : (s.rxbuf.writeByte s.cur.toNat b).readByte (s.exp - 1#11).toNat = some c1)
      (hl : (s.exp - 1#11).toNat < 1030) (hcrc : crc16 s.crcParams body = le16 c0 c1) (u : State)
      (hd : deliver body ((s.pushRx b).endFrame) = .next u) :
      RxbRow b s (u, OpResult.plain .delivered)
  | mismatched (hst : s.st = .receiving) (hc : s.cur.toNat < 1030) (hn : ¬ s.cur + 1#11 < s.exp) (body : List Byte) (c0 c1 : Byte)
      (rb : (s.rxbuf.writeByte s.cur.toNat b).readBytes 0 (s.exp - 2#11).toNat = some body)
      (r0 : (s.rxbuf.writeByte s.cur.toNat b).readByte (s.exp - 2#11).toNat = some c0)
      (r1 : (s.rxbuf.writeByte s.cur.toNat b).readByte (s.exp - 1#11).toNat = some c1)
      (hl : (s.exp - 1#11).toNat < 1030) (hcrc : crc16 s.crcParams body ≠ le16 c0 c1) :
      RxbRow b s (rejectFrame .checksumMismatch ((s.pushRx b).endFrame))

/-- If RXB goes on, it does what one of the rows says. -/
theorem rxbOp_rows {b : Byte} {s : State} {q : State × OpResult} (h : rxbOp b s = .next q) : RxbRow b s q := by
  unfold rxbOp at h
  split at h
  · rename_i hst
    cases h
    unfold rxbStart
    split
    · exact .started hst ‹_›
    · exact .discarded hst ‹_›
  · rename_i hst
    obtain ⟨hc, h⟩ := storeRx_eq_next h
    split at h
    · cases h; exact .headerByte hst hc ‹_›
    · rename_i hn
      obtain ⟨-, h0, r0, h⟩ := readRx_eq_next h
      obtain ⟨-, h1, r1, h⟩ := readRx_eq_next h
      obtain ⟨-, h2, r2, h⟩ := readRx_eq_next h
      obtain ⟨-, h3, r3, h⟩ := readRx_eq_next h
      cases h
      exact .headerLast hst hc hn h0 h1 h2 h3 r0 r1 r2 r3
  · rename_i hst
    obtain ⟨hc, h⟩ := storeRx_eq_next h
    split at h
    · cases h; exact .bodyByte hst hc ‹_›
    · rename_i hn
      obtain ⟨-, body, rb, h⟩ := readRxRange_eq_next h
      obtain ⟨-, c0, r0, h⟩ := readRx_eq_next h
      obtain ⟨hl, c1, r1, h⟩ := readRx_eq_next h
      unfold judgeBody at h
      split at h
      · obtain ⟨u, hd, h⟩ := andThen_eq_next.1 h
        cases h
        exact .delivered hst hc hn body c0 c1 rb r0 r1 hl ‹_› u hd
      · cases h
        exact .mismatched hst hc hn body c0 c1 rb r0 r1 hl ‹_›

/-- A header that passes neither, the first, or both tests. -/
theorem validateHeader_cases (h0 h1 h2 h3 : Byte) (s : State) :
    (redundancyOk h0 h1 h2 h3 = true ∧ lengthOk (le16 h0 h1) = true ∧
      validateHeader h0 h1 h2 h3 s = (acceptHeader (le16 h0 h1) s, OpResult.plain .ok)) ∨
    (redundancyOk h0 h1 h2 h3 = true ∧ lengthOk (le16 h0 h1) = false ∧
      validateHeader h0 h1 h2 h3 s = rejectFrame .lengthOutOfRange s) ∨
    (redundancyOk h0 h1 h2 h3 = false ∧
      validateHeader h0 h1 h2 h3 s = rejectFrame .headerRedundancyMismatch s) := by
  unfold validateHeader
  cases redundancyOk h0 h1 h2 h3 <;> cases lengthOk (le16 h0 h1) <;> simp

/-! ### Feeding bytes (41_decoder.md R143) -/

@[simp] theorem feedBytes_nil (s : State) : feedBytes [] s = .next s := rfl

theorem feedBytes_cons (b : Byte) (bs : List Byte) (s : State) :
    feedBytes (b :: bs) s = andThen (execRxb b s) (feedBytes bs) := rfl

/-- Bytes fed in two runs. -/
theorem feedBytes_append (as bs : List Byte) (s : State) :
    feedBytes (as ++ bs) s = andThen (feedBytes as s) (feedBytes bs) := by
  induction as generalizing s with
  | nil => rfl
  | cons a as ih =>
    rw [List.cons_append, feedBytes_cons, feedBytes_cons, andThen_assoc]
    congr 1
    exact funext ih

end Sys2Proof.Machine
end

