-- ==== Sys2Proof/Laws/PerInstr.lean ====
section
/-! SUPPORT. A statement about every instruction as syntax, one lemma per constructor: how long its encoding is and what byte it
begins with (30_encoding.md R71, R78, R82, R83). -/

namespace Sys2Proof.Laws.EncodedSize

open Sys2Proof.Machine

/-- The encoding of `i` has the size of `i` and begins with its opcode. -/
def Statement (i : Instr) : Prop := ∀ c : CrcParams, (encode c i).length = i.size ∧ (encode c i)[0]? = some (opcode i)

theorem rst : Statement .rst := fun _ => ⟨rfl, rfl⟩
theorem enc (p : List Byte) : Statement (.enc p) := fun _ => ⟨rfl, rfl⟩
theorem rpt : Statement .rpt := fun _ => ⟨rfl, rfl⟩
theorem raw (s : List Byte) : Statement (.raw s) := fun _ => ⟨rfl, rfl⟩
theorem rxb (b : Byte) : Statement (.rxb b) := fun _ => ⟨rfl, rfl⟩
theorem crc (s : List Byte) : Statement (.crc s) := fun _ => ⟨rfl, rfl⟩
theorem setos : Statement .setos := fun _ => ⟨rfl, rfl⟩
theorem reserved (cmd : Byte) : Statement (.reserved cmd) := fun _ => ⟨rfl, rfl⟩
theorem frame (p : List Byte) : Statement (.frame p) := fun c => ⟨length_frame c p false, rfl⟩
theorem errframe : Statement .errframe := fun _ => ⟨rfl, rfl⟩

end Sys2Proof.Laws.EncodedSize
end

