-- ==== Sys2Proof/Laws/Step.lean ====
section
/-! SUPPORT. What one step can do, said once. -/

namespace Sys2Proof.Machine

/-- The ports hold nothing to run, a command or a part of one, or a chunk. -/
inductive FetchCase (s : State) : Fetched → Prop where
  | contended (hc : s.contended = true) : FetchCase s .refuse
  | idle (hc : s.contended = false) (hq : s.inputs = []) : FetchCase s (.quiet s)
  | reset (hc : s.contended = false) (rest : List Request) (hq : s.inputs = .resetLine :: rest) :
      FetchCase s (.quiet (s.setInputs rest).initialise)
  | held (hc : s.contended = false) (bytes : List Byte) (rest : List Request) (hq : s.inputs = .command bytes :: rest)
      (e : DecodeError) (hd : decodeCommand (s.heldCommand ++ bytes) = .error e) :
      FetchCase s (.quiet ((s.setHeld (s.heldCommand ++ bytes)).setInputs rest))
  | command (hc : s.contended = false) (bytes more : List Byte) (rest : List Request) (i : Instr)
      (hq : s.inputs = .command bytes :: rest) (hd : decodeCommand (s.heldCommand ++ bytes) = .ok (i, more)) :
      FetchCase s (.run i ((s.setHeld []).setInputs (requeue more rest)))
  | feedEnds (hc : s.contended = false) (rest : List Request) (hq : s.inputs = .feed [] :: rest) :
      FetchCase s (.quiet (s.setInputs rest).returnFeed)
  | fed (hc : s.contended = false) (b : Byte) (bs : List Byte) (rest : List Request) (hq : s.inputs = .feed (b :: bs) :: rest) :
      FetchCase s (.runFed (wireHead s.st s.crcParams b bs).1
        (s.setInputs (.feed (wireHead s.st s.crcParams b bs).2 :: rest)))

/-- Every fetch is one of the cases. -/
theorem fetch_case (s : State) : FetchCase s (fetch s) := by
  unfold fetch
  split
  · exact .contended ‹_›
  · rename_i hc
    simp only [Bool.not_eq_true] at hc
    split
    · exact .idle hc ‹_›
    · exact .reset hc _ ‹_›
    · rename_i bytes rest hq
      unfold fetchCommand
      split
      · exact .command hc _ _ _ _ hq ‹_›
      · exact .held hc _ _ hq _ ‹_›
    · exact .feedEnds hc _ ‹_›
    · exact .fed hc _ _ _ ‹_›

/-- What the step does with what is fetched. -/
theorem step_of_quiet {s t : State} (h : fetch s = .quiet t) : step s = .next t := by simp [step, h]

theorem step_of_run {s t : State} {i : Instr} (h : fetch s = .run i t) : step s = exec i t := by simp [step, h]

theorem step_of_runFed {s t : State} {i : Instr} (h : fetch s = .runFed i t) :
    step s = andThen (exec i t) fun u => .next (noteDelivery t.results.length u) := by simp [step, h]

theorem step_of_refuse {s : State} (h : fetch s = .refuse) : step s = .refused .concurrentDrivers := by simp [step, h]

/-- The instruction at the front of a chunk is RXB of its first byte or a whole frame. -/
theorem wireHead_cases (st : DecState) (c : CrcParams) (b : Byte) (bs : List Byte) :
    wireHead st c b bs = (.rxb b, bs) ∨ st = .awaitingStart ∧ decodeWire c (b :: bs) = .ok (wireHead st c b bs) := by
  unfold wireHead
  split
  · split
    · rename_i i more h; exact .inr ⟨rfl, h⟩
    · exact .inl rfl
  · exact .inl rfl
  · exact .inl rfl

end Sys2Proof.Machine
end

