-- ==== Sys2Proof/Tests/Slice0.lean ====
section
/-! SUPPORT. Tests of the model. The expected values are those of the spec: 95_test_vectors.md (V<n>, S<n>, P<n>), 30_encoding.md R79,
R88 to R90, 42_checksum.md R173, R180. The second half shows, for each statement with hypotheses, inputs that meet them all. -/

namespace Sys2Proof.Tests

open Sys2Proof.Machine

/-! ### Helpers -/

/-- A state after reset, but for the decoder's elements and `OS`; the bytes `rx` are in RXBUF from index 0 on. -/
def build (st : DecState) (cur exp : Count) (rx : List Byte) (os : Bool) : State :=
  { State.reset with st := st, cur := cur, exp := exp, rxbuf := Memory.writeBytes [] 0 rx, os := os }

/-- The state after reset with a frame sent and cached. -/
def cached (f : List Byte) : State := ((State.reset.cacheFrame f).noteFrame f).txWrite f

/-- The state after reset with a handler that gives one answer. -/
def answering (ops : List Instr) : State := State.reset.setHandler [ops]

/-- The state after reset with inputs at the ports. -/
def waiting (q : List Request) : State := State.reset.setInputs q

/-- The next state, if there is one. -/
def after (o : Host.Outcome State Fault Refusal) : Option State :=
  match o with
  | .next s => some s
  | .fault _ => none
  | .refused _ => none

/-- What an operation shows: the sink's history, the deliveries, the result bytes. -/
def shown (o : Host.Outcome State Fault Refusal) : Option (List (List Byte) × List (List Byte) × List Byte) :=
  (after o).map fun s => (s.tx, s.dlv, s.results.map OpResult.byte)

/-- `ST / CUR / EXP / TXLEN / OS`, as 95_test_vectors.md writes a state. -/
def brief (o : Host.Outcome State Fault Refusal) : Option (DecState × Nat × Nat × Nat × Bool) :=
  (after o).map fun s => (s.st, s.cur.toNat, s.exp.toNat, s.txlen.toNat, s.os)

/-- The error frame under the default parameters (R79). -/
def err : List Byte := [0xF5, 0x03, 0x00, 0xFC, 0xFF, 0xFF, 0x00, 0xFF]

/-- The frame of S1. -/
def s1 : List Byte := [0xF5, 0x05, 0x00, 0xFA, 0xFF, 0x01, 0x02, 0x03, 0xAD, 0xAD]

/-! ### Well-formedness: a term that each check refuses, and the boundary that it accepts -/

theorem test_wf_enc : (Instr.enc (List.replicate 65536 0)).wf = false ∧ (Instr.enc (List.replicate 65535 0)).wf = true := by
  simp only [Instr.wf, operandFits, List.length_replicate, Config.maxOperand]
  decide
theorem test_wf_raw : (Instr.raw (List.replicate 65536 0)).wf = false ∧ (Instr.raw (List.replicate 65535 0)).wf = true := by
  simp only [Instr.wf, operandFits, List.length_replicate, Config.maxOperand]
  decide
theorem test_wf_crc : (Instr.crc (List.replicate 65536 0)).wf = false ∧ (Instr.crc (List.replicate 65535 0)).wf = true := by
  simp only [Instr.wf, operandFits, List.length_replicate, Config.maxOperand]
  decide
theorem test_wf_reserved : (Instr.reserved 0x06).wf = false ∧ (Instr.reserved 0x07).wf = true := by decide
theorem test_wf_frame_length :
    (Instr.frame (List.replicate 1025 0)).wf = false ∧ (Instr.frame (List.replicate 1024 0)).wf = true := by
  have h : List.replicate 1024 (0 : Byte) ≠ [Config.errBody] := fun h => by
    have := congrArg List.length h
    rw [List.length_replicate] at this
    exact absurd this (by decide)
  rw [Instr.wf, Instr.wf, decide_eq_false_iff_not, decide_eq_true_iff, framePayload, framePayload, List.length_replicate,
    List.length_replicate]
  exact ⟨fun h => absurd h.1 (by decide), by decide, h⟩
theorem test_wf_frame_of_errframe : (Instr.frame [0xFF]).wf = false ∧ Instr.errframe.wf = true := by decide

/-! ### Decoding: words from 95_test_vectors.md 2.5, R88, R79 -/

theorem test_decode_rst : decodeCommand [0x00] = .ok (.rst, []) := by rfl
theorem test_decode_enc : decodeCommand [0x01, 0x03, 0x00, 0x01, 0x02, 0x03] = .ok (.enc [0x01, 0x02, 0x03], []) := by rfl
theorem test_decode_rpt : decodeCommand [0x02] = .ok (.rpt, []) := by rfl
theorem test_decode_raw : decodeCommand [0x03, 0x02, 0x00, 0xDE, 0xAD] = .ok (.raw [0xDE, 0xAD], []) := by rfl
theorem test_decode_rxb : decodeCommand [0x04, 0xF5] = .ok (.rxb 0xF5, []) := by rfl
theorem test_decode_crc :
    decodeCommand [0x05, 0x09, 0x00, 0x31, 0x32, 0x33, 0x34, 0x35, 0x36, 0x37, 0x38, 0x39] =
      .ok (.crc [0x31, 0x32, 0x33, 0x34, 0x35, 0x36, 0x37, 0x38, 0x39], []) := by rfl
theorem test_decode_setos : decodeCommand [0x06, 0x01, 0x01, 0x00, 0xAA] = .ok (.setos, [0x01, 0x01, 0x00, 0xAA]) := by rfl
theorem test_decode_reserved : decodeCommand [0x80] = .ok (.reserved 0x80, []) := by rfl
theorem test_decode_frame : decodeWire Config.crcDefault s1 = .ok (.frame [0x01, 0x02, 0x03], []) := by decide +kernel
theorem test_decode_errframe : decodeWire Config.crcDefault err = .ok (.errframe, []) := by rfl

theorem test_decode_truncated : decodeCommand [0x01, 0x02, 0x00, 0x41] = .error .truncated := by rfl
/-- V50. -/
theorem test_decode_header_mismatch : decodeWire Config.crcDefault [0xF5, 0x05, 0x00, 0xFA, 0xFE] = .error .headerMismatch := by rfl
/-- V52. -/
theorem test_decode_length_out_of_range :
    decodeWire Config.crcDefault [0xF5, 0x01, 0x00, 0xFE, 0xFF] = .error .lengthOutOfRange := by rfl
/-- V40. -/
theorem test_decode_checksum_mismatch :
    decodeWire Config.crcDefault [0xF5, 0x05, 0x00, 0xFA, 0xFF, 0x01, 0x02, 0x03, 0xAD, 0xAC] = .error .checksumMismatch := by
  decide +kernel

/-! ### One step of each instruction -/

/-- V62, from `RC/2/5/8/1` with something sent. -/
theorem test_rst :
    brief (exec .rst { cached err with st := .receiving, cur := 2#11, exp := 5#11, os := true }) =
      some (.awaitingStart, 0, 0, 0, false) ∧
    shown (exec .rst { cached err with st := .receiving, cur := 2#11, exp := 5#11, os := true }) =
      some ([err], [], [0x00]) := by decide

/-- P1 step 1. -/
theorem test_enc :
    brief (exec (.enc [0x01, 0x02, 0x03]) State.reset) =
      some (.awaitingStart, 0, 0, 10, false) ∧
    shown (exec (.enc [0x01, 0x02, 0x03]) State.reset) =
      some ([s1], [], [0x00]) := by decide +kernel

/-- V28: an empty payload with `OS` set. -/
theorem test_enc_one_shot :
    brief (exec (.enc []) (build .awaitingStart 0 0 [] true)) =
      some (.awaitingStart, 0, 0, 7, false) ∧
    shown (exec (.enc []) (build .awaitingStart 0 0 [] true)) =
      some ([[0xF5, 0x03, 0x00, 0xFC, 0xFF, 0xFF, 0xFF]], [], [0x80]) := by
  decide +kernel

/-- V29c. -/
theorem test_rpt_empty : shown (exec .rpt State.reset) = some ([], [], [0x00]) := by decide

/-- V29d. -/
theorem test_rpt : shown (exec .rpt (cached s1)) = some ([s1, s1], [], [0x00]) := by decide +kernel

/-- V29e, with a frame cached and `OS` set (V29f, V29h). -/
theorem test_raw :
    brief (exec (.raw [0xDE, 0xAD]) ((cached s1).setOs true)) =
      some (.awaitingStart, 0, 0, 10, true) ∧
    shown (exec (.raw [0xDE, 0xAD]) ((cached s1).setOs true)) =
      some ([s1, [0xDE, 0xAD]], [], [0x00]) := by decide +kernel

/-- V49. -/
theorem test_rxb_header_mismatch :
    brief (exec (.rxb 0xFF) (build .awaitingLength 3 0 [0x05, 0x00, 0xFB] true)) =
      some (.awaitingStart, 4, 0, 8, false) ∧
    shown (exec (.rxb 0xFF) (build .awaitingLength 3 0 [0x05, 0x00, 0xFB] true)) =
      some ([[0xF5, 0x04, 0x00, 0xFB, 0xFF, 0xFF, 0x00, 0xFF]], [], [0x82]) := by decide +kernel

/-- V48. -/
theorem test_rxb_delivers :
    brief (exec (.rxb 0xAD) (build .receiving 4 5 [0x01, 0x02, 0x03, 0xAD] false)) =
      some (.awaitingStart, 5, 5, 0, false) ∧
    shown (exec (.rxb 0xAD) (build .receiving 4 5 [0x01, 0x02, 0x03, 0xAD] false)) =
      some ([], [[0x01, 0x02, 0x03]], [0x01]) := by decide +kernel

/-- V10: the check value of the default parameters. -/
theorem test_crc :
    (after (exec (.crc [0x31, 0x32, 0x33, 0x34, 0x35, 0x36, 0x37, 0x38, 0x39]) State.reset)).map (fun s => s.results.map OpResult.value) =
      some [some 0x29B1] := by decide +kernel

/-- 93_implementation_defined.md G1: KERMIT's check value, with both reflections. -/
theorem test_crc_reflected :
    crc16 { poly := 0x1021, init := 0x0000, refin := true, refout := true, xorout := 0x0000 }
      [0x31, 0x32, 0x33, 0x34, 0x35, 0x36, 0x37, 0x38, 0x39] = 0x2189 := by decide +kernel

/-- V63. -/
theorem test_setos : brief (exec .setos State.reset) = some (.awaitingStart, 0, 0, 0, true) := by decide

/-- V66. -/
theorem test_reserved :
    brief (exec (.reserved 0xFF) (cached err)) =
      some (.awaitingStart, 0, 0, 8, false) ∧
    shown (exec (.reserved 0xFF) (cached err)) =
      some ([err], [], [0x06]) := by decide

/-- V30. -/
theorem test_frame :
    brief (exec (.frame [0x01, 0x02, 0x03]) State.reset) =
      some (.awaitingStart, 5, 5, 0, false) ∧
    shown (exec (.frame [0x01, 0x02, 0x03]) State.reset) =
      some ([], [[0x01, 0x02, 0x03]], [0, 0, 0, 0, 0, 0, 0, 0, 0, 1]) := by decide +kernel

/-- P4, its first frame: the handler answers `ENC 06`. -/
theorem test_frame_answered :
    brief (exec (.frame [0x41]) (answering [.enc [0x06]])) =
      some (.awaitingStart, 3, 3, 8, false) ∧
    shown (exec (.frame [0x41]) (answering [.enc [0x06]])) =
      some ([[0xF5, 0x03, 0x00, 0xFC, 0xFF, 0x06, 0x36, 0x81]], [[0x41]], [0, 0, 0, 0, 0, 0, 0, 1]) := by decide +kernel

/-- V32. -/
theorem test_errframe :
    brief (exec .errframe State.reset) =
      some (.awaitingStart, 3, 3, 0, false) ∧
    shown (exec .errframe State.reset) =
      some ([], [[0xFF]], [0, 0, 0, 0, 0, 0, 0, 1]) := by decide +kernel

/-- P2, steps 2 to 4: after the broken header the cache holds the error frame, and RPT repeats it. -/
theorem test_error_then_rpt :
    shown (andThen (feedBytes [0x00, 0x37, 0xF5, 0x05, 0x00, 0xFB, 0xFF] (cached s1)) execRpt) =
      some ([s1, err, err], [], [0, 0, 0, 0, 0, 0, 2, 0]) := by decide +kernel

/-! ### The step -/

/-- R90's word of `RXB F5` runs as the first operation after reset. -/
theorem test_step_rxb : brief (step (State.reset.withFetchWord 16 0xF504)) = some (.awaitingLength, 0, 0, 0, false) := by
  decide +kernel

/-- The error frame as a table word runs as a whole, and the rest of the chunk is empty. -/
theorem test_step_errframe :
    (shown (step (State.reset.withFetchWord 64 0xFF00FFFFFC0003F5)),
      (after (step (State.reset.withFetchWord 64 0xFF00FFFFFC0003F5))).map State.inputs) =
    (some ([], [[0xFF]], [0, 0, 0, 0, 0, 0, 0, 1]), some [.feed []]) := by decide +kernel

/-- The table words of the operations, operands of zeros behind them. -/
theorem test_table_words :
    [decodeTableWord 8 0x00, decodeTableWord 8 0x01, decodeTableWord 8 0x02, decodeTableWord 8 0x03, decodeTableWord 8 0x04,
      decodeTableWord 8 0x05, decodeTableWord 8 0x06, decodeTableWord 8 0x07, decodeTableWord 64 0xFF00FFFFFC0003F5] =
    [some .rst, some (.enc []), some .rpt, some (.raw []), some (.rxb 0x00), some (.crc []), some .setos, some (.reserved 0x07),
      some .errframe] := by decide +kernel

/-- A part of a command is held and completed by the next bytes; the reset input between them takes effect (log entry 11). -/
theorem test_held_command :
    brief (Host.Core.run core 3 ((waiting [.command [0x04], .resetLine, .command [0xF5]]).setOs true)) =
      some (.awaitingLength, 0, 0, 0, false) := by decide +kernel

/-- `FEED` of V30 returns true after the last step of its call (R143). -/
theorem test_feed_returns :
    (after (Host.Core.run core 2 (waiting [.feed s1]))).map (fun s => (s.feedReturns, s.inputs)) = some ([true], []) := by
  decide +kernel

/-! ### Witnesses: the hypotheses of the statements can be met

One theorem per statement with hypotheses (or per group with the same hypotheses), at the boundaries of each clause. -/

/-- An outcome that is a next state with a property that can be evaluated. -/
theorem exists_next {o : Host.Outcome State Fault Refusal} {p : State → Bool} (h : (after o).any p = true) :
    ∃ t, o = .next t ∧ p t = true := by
  cases o with
  | next t => exact ⟨t, rfl, h⟩
  | fault f => cases h
  | refused r => cases h

/-- The states after reset and with the error frame cached satisfy the invariants. -/
theorem test_inv_reset_and_cached : Inv State.reset ∧ Inv (cached err) := by
  have h : Inv State.reset :=
    { rxWf := rfl
      txWf := rfl
      curLegal := by decide
      expLegal := by decide
      noFrame := fun _ => rfl
      headerPart := fun h => nomatch h
      bodyPart := fun h => nomatch h
      cache := .inl ⟨rfl, rfl⟩ }
  exact ⟨h, { h with
    txWf := by decide
    cache := .inr ⟨[0xFF], false, by decide, by decide +kernel, by decide, by decide +kernel, by decide +kernel⟩ }⟩

/-- `Receiving`, before the last byte of S1's frame, with a handler that keeps to its contract. -/
def nearlyDone : State :=
  { build .receiving 4 5 [0x01, 0x02, 0x03, 0xAD] false with
    handler := [[.enc [0x06]]]
    frameBytes := s1.take 9 }

/-- `AwaitingLength`, before the last byte of a header. -/
def nearlyHeader : State := { build .awaitingLength 3 0 [0x05, 0x00, 0xFA] false with frameBytes := s1.take 4 }

theorem test_inv_header : Inv nearlyHeader :=
  { rxWf := by decide
    txWf := rfl
    curLegal := by decide
    expLegal := by decide
    noFrame := fun h => nomatch h
    headerPart := fun _ => ⟨[0x05, 0x00, 0xFA], by decide⟩
    bodyPart := fun h => nomatch h
    cache := .inl ⟨rfl, rfl⟩ }

theorem test_inv_receiving : Inv nearlyDone :=
  { rxWf := by decide
    txWf := rfl
    curLegal := by decide
    expLegal := by decide
    noFrame := fun h => nomatch h
    headerPart := fun h => nomatch h
    bodyPart := fun _ => ⟨0x0005, [0x01, 0x02, 0x03, 0xAD], by decide⟩
    cache := .inl ⟨rfl, rfl⟩ }

theorem test_witness_CrcByteTableForm : Config.crcDefault.refin = false := rfl

theorem test_witness_CrcDetectsOneCorruptedByte :
    Config.crcDefault.poly.getLsbD 0 = true ∧ (0x01 : Byte) ≠ 0x00 := by decide

/-- Also for EncSendsAndCachesFrame, RptRepeatsTheFrameAsSent, SetosSetsFlag, and the first clause of FrameIsDelivered. -/
theorem test_witness_FramePropertiesOfTheEncoder :
    ([] : List Byte).length ≤ 1024 ∧ (List.replicate 1024 (0 : Byte)).length ≤ 1024 := by
  rw [List.length_replicate]
  decide

theorem test_witness_EncRefusesLongPayload :
    1024 < (List.replicate 1025 (0 : Byte)).length ∧
    (List.replicate 1024 (0 : Byte)).length = 1024 ∧ (build .awaitingStart 0 0 [] true).os = true := by
  rw [List.length_replicate, List.length_replicate]
  decide

theorem test_witness_RptResendsCache :
    (Inv State.reset ∧ State.reset.txlen = 0#11) ∧ Inv (cached err) ∧ (cached err).txlen ≠ 0#11 :=
  ⟨⟨test_inv_reset_and_cached.1, rfl⟩, test_inv_reset_and_cached.2, by decide⟩

/-- The three kinds, from V45, V46 and V48a. -/
theorem test_witness_RptAfterErrorRepeatsErrorFrame :
    (∃ t, exec (.rxb 0xFF) (build .awaitingLength 3 0 [0x05, 0x00, 0xFB] false) = .next t ∧
      decide (t.results = [OpResult.plain .headerRedundancyMismatch]) = true) ∧
    (∃ t, exec (.rxb 0xFF) (build .awaitingLength 3 0 [0x01, 0x00, 0xFE] false) = .next t ∧
      decide (t.results = [OpResult.plain .lengthOutOfRange]) = true) ∧
    (∃ t, exec (.rxb 0xAC) (build .receiving 4 5 [0x01, 0x02, 0x03, 0xAD] false) = .next t ∧
      decide (t.results = [OpResult.plain .checksumMismatch]) = true) :=
  ⟨exists_next (by decide +kernel), exists_next (by decide +kernel), exists_next (by decide +kernel)⟩

/-- Also for ReservedWordsDecodeToThemselves. -/
theorem test_witness_ReservedWordHasNoEffect :
    7 ≤ (0x07 : Byte).toNat ∧ 7 ≤ (0xFF : Byte).toNat ∧ ¬ isReserved 0x06 ∧ decodeCommand [0x06] = .ok (.setos, []) :=
  ⟨by decide, by decide, by decide, rfl⟩

theorem test_witness_ScanningStopsAtStx : State.reset.st = .awaitingStart ∧ (0xF4 : Byte) ≠ 0xF5 := by decide

theorem test_witness_HeaderBytesAccumulate :
    (build .awaitingLength 0 0 [] false).st = .awaitingLength ∧ (build .awaitingLength 0 0 [] false).cur.toNat < 3 ∧
    (build .awaitingLength 2 0 [0x05, 0x00] false).st = .awaitingLength ∧
    (build .awaitingLength 2 0 [0x05, 0x00] false).cur.toNat < 3 := by decide

/-- LEN 2 and LEN 1026. -/
theorem test_witness_HeaderAccepted :
    ((build .awaitingLength 3 0 [0x02, 0x00, 0xFD] false).rxbuf.readBytes 0 3 = some [0x02, 0x00, 0xFD] ∧
      (0x02 : Byte) = cpl 0xFD ∧ (0x00 : Byte) = cpl 0xFF ∧ (le16 0x02 0x00).toNat = 2) ∧
    (build .awaitingLength 3 0 [0x02, 0x04, 0xFD] false).rxbuf.readBytes 0 3 = some [0x02, 0x04, 0xFD] ∧
      (0x02 : Byte) = cpl 0xFD ∧ (0x04 : Byte) = cpl 0xFB ∧ (le16 0x02 0x04).toNat = 1026 := by decide

/-- For HeaderMismatchRejected and LengthOutOfRangeRejected: each complement wrong alone, then LEN 1 and LEN 1027 in consistent
headers. -/
theorem test_witness_HeaderMismatchRejected :
    ((build .awaitingLength 3 0 [0x05, 0x00, 0xFB] false).rxbuf.readBytes 0 3 = some [0x05, 0x00, 0xFB] ∧
      (0x05 : Byte) ≠ cpl 0xFB ∧ (0x00 : Byte) = cpl 0xFF) ∧
    ((0x05 : Byte) = cpl 0xFA ∧ (0x00 : Byte) ≠ cpl 0xFE) ∧
    ((build .awaitingLength 3 0 [0x01, 0x00, 0xFE] false).rxbuf.readBytes 0 3 = some [0x01, 0x00, 0xFE] ∧
      (0x01 : Byte) = cpl 0xFE ∧ (0x00 : Byte) = cpl 0xFF ∧ (le16 0x01 0x00).toNat = 1) ∧
    ((build .awaitingLength 3 0 [0x03, 0x04, 0xFC] false).rxbuf.readBytes 0 3 = some [0x03, 0x04, 0xFC] ∧
      (0x03 : Byte) = cpl 0xFC ∧ (0x04 : Byte) = cpl 0xFB ∧ (le16 0x03 0x04).toNat = 1027) := by decide

/-- The second byte of two, and the last but one of 1026. -/
theorem test_witness_BodyBytesAccumulate :
    ((build .receiving 0 2 [] false).exp.toNat ≤ 1026 ∧
      (build .receiving 0 2 [] false).cur.toNat + 1 < (build .receiving 0 2 [] false).exp.toNat) ∧
    (build .receiving 1024 1026 [] false).exp.toNat ≤ 1026 ∧
      (build .receiving 1024 1026 [] false).cur.toNat + 1 < (build .receiving 1024 1026 [] false).exp.toNat := by decide

/-- S1's body (V48) and the empty body (V31). -/
theorem test_witness_MatchingFrameIsDelivered :
    ((build .receiving 4 5 [0x01, 0x02, 0x03, 0xAD] false).cur.toNat + 1 = 5 ∧
      (build .receiving 4 5 [0x01, 0x02, 0x03, 0xAD] false).rxbuf.readBytes 0 4 = some [0x01, 0x02, 0x03, 0xAD] ∧
      [0x01, 0x02, 0x03, 0xAD] ++ [0xAD] =
        [0x01, 0x02, 0x03] ++ [lo (crc16 Config.crcDefault [0x01, 0x02, 0x03]), hi (crc16 Config.crcDefault [0x01, 0x02, 0x03])]) ∧
    (build .receiving 1 2 [0xFF] false).cur.toNat + 1 = 2 ∧
      (build .receiving 1 2 [0xFF] false).rxbuf.readBytes 0 1 = some [0xFF] ∧
      [0xFF] ++ [0xFF] = [] ++ [lo (crc16 Config.crcDefault []), hi (crc16 Config.crcDefault [])] ∧
      (build .receiving 1 2 [0xFF] false).handler = [] := by decide +kernel

/-- V48a. -/
theorem test_witness_MismatchedFrameIsRejected :
    (build .receiving 4 5 [0x01, 0x02, 0x03, 0xAD] false).cur.toNat + 1 = 5 ∧
    (build .receiving 4 5 [0x01, 0x02, 0x03, 0xAD] false).rxbuf.readBytes 0 4 = some [0x01, 0x02, 0x03, 0xAD] ∧
    [0x01, 0x02, 0x03, 0xAD] ++ [0xAC] = [0x01, 0x02, 0x03] ++ [0xAD, (0xAC : Byte)] ∧
    crc16 Config.crcDefault [0x01, 0x02, 0x03] ≠ le16 0xAD 0xAC := by decide +kernel

/-- Also for EveryInstructionCompletes and NoFaultUnderTheInvariants. -/
theorem test_witness_RxbAlwaysCompletes :
    Inv nearlyDone ∧ LawfulHandler nearlyDone ∧
    ∃ t, exec (.rxb 0xAD) nearlyDone = .next t ∧
      decide (t.results = [OpResult.plain .delivered] ∧ nearlyDone.frameBytes ++ [0xAD] = s1) = true :=
  ⟨test_inv_receiving, by decide, exists_next (by decide +kernel)⟩

/-- Also for EncoderSideLeavesDecoderAlone. -/
theorem test_witness_HandlerOperationsRunByTheirOwnRules :
    State.reset.handler = [] ∧ nearlyDone.handler = [.enc [0x06]] :: [] ∧
    encoderSide (.enc [0x06]) = true ∧ ∃ t, exec (.enc [0x06]) State.reset = .next t := ⟨rfl, rfl, rfl, _, rfl⟩

theorem test_witness_NestedOperationIsRefused :
    Inv (answering [.enc [0x06], .rst, .setos]) ∧
    (answering [.enc [0x06], .rst, .setos]).handler = ([.enc [0x06]] ++ .rst :: [.setos]) :: [] ∧
    (∀ j ∈ [Instr.enc [0x06]], encoderSide j = true) ∧ encoderSide .rst = false :=
  ⟨{ test_inv_reset_and_cached.1 with }, rfl, by decide, rfl⟩

theorem test_witness_EncoderIgnoresDecoderState :
    encoderSide .rpt = true ∧ SameEncoder State.reset (build .receiving 1 5 [0x01] false) ∧
    (build .receiving 1 5 [0x01] false).crcParams = State.reset.crcParams ∧ ∃ t, exec .rpt State.reset = .next t :=
  ⟨rfl, ⟨rfl, rfl, rfl⟩, rfl, _, rfl⟩

/-- An accumulated byte (V47) and a delivery to a handler that issues nothing (V48). -/
theorem test_witness_RxbTouchesEncoderOnlyOnErrors :
    (∃ t, exec (.rxb 0xAD) (build .receiving 3 5 [0x01, 0x02, 0x03] false) = .next t ∧
      decide (t.results = [OpResult.plain .ok]) = true) ∧
    (∃ t, exec (.rxb 0xAD) (build .receiving 4 5 [0x01, 0x02, 0x03, 0xAD] false) = .next t ∧
      decide (t.results = [OpResult.plain .delivered]) = true) ∧
    (build .receiving 4 5 [0x01, 0x02, 0x03, 0xAD] false).handler.headD [] = [] :=
  ⟨exists_next (by decide +kernel), exists_next (by decide +kernel), rfl⟩

/-- An ENC with `OS` set (V27) and an error frame with `OS` set (V49). -/
theorem test_witness_AsymReportsOneShotFrames :
    (Instr.enc [0x01]).port = .command ∧
    (∃ t, exec (.enc [0x01]) (build .awaitingStart 0 0 [] true) = .next t ∧
      decide (t.results = [OpResult.mkFlag .ok true]) = true) ∧
    (∃ t, exec (.rxb 0xFF) (build .awaitingLength 3 0 [0x05, 0x00, 0xFB] true) = .next t ∧
      decide (t.results = [OpResult.mkFlag .headerRedundancyMismatch true]) = true) :=
  ⟨rfl, exists_next (by decide +kernel), exists_next (by decide +kernel)⟩

theorem test_witness_OneShotNeedsSetos :
    (answering [.enc [0x06]]).os = false ∧ Instr.frame [0x41] ≠ .setos ∧
    (∀ ops ∈ (answering [.enc [0x06]]).handler, Instr.setos ∉ ops) ∧
    ∃ t, exec (.frame [0x41]) (answering [.enc [0x06]]) = .next t ∧ decide (t.handlerResults = [OpResult.plain .ok]) = true :=
  ⟨rfl, by decide, by decide, exists_next (by decide +kernel)⟩

theorem test_witness_CacheEmptiedOnlyByReset :
    (∃ t, exec .rst (cached err) = .next t ∧ t.txlen = 0#11) ∧ ∃ t, exec .setos State.reset = .next t ∧ t.txlen = 0#11 :=
  ⟨⟨_, rfl, rfl⟩, _, rfl, rfl⟩

/-- Also for ErrorFrameReceivedIsAPayload and EncodedPayloadArrivesAtThePeer (two instances after reset). -/
theorem test_witness_FrameIsDelivered :
    State.reset.st = .awaitingStart ∧ State.reset.handler = [] ∧ State.reset.os = false ∧ ([0x01] : List Byte).length ≤ 1024 := by
  decide

theorem test_witness_GarbageBeforeAFrameIsIgnored :
    State.reset.st = .awaitingStart ∧ ∀ b ∈ ([0x00, 0x37, 0xFF, 0x12] : List Byte), b ≠ 0xF5 := by decide

theorem test_witness_CorruptedFrameCausesOneErrorFrame :
    State.reset.st = .awaitingStart ∧ le16 0xAD 0xAC ≠ crc16 State.reset.crcParams [0x01, 0x02, 0x03] := by decide +kernel

/-- P3: payload `AA`, then the STX of the next frame; the boundaries 0 and 1023 of the first clause; a payload of 1024 bytes. -/
theorem test_witness_OneShotFrameDesynchronisesReceiver :
    (State.reset.st = .awaitingStart ∧ ([0xAA] : List Byte).length ≤ 1023 ∧
      crc16 State.reset.crcParams ([0xAA] ++ [lo (crc16 State.reset.crcParams [0xAA])]) ≠
        le16 (hi (crc16 State.reset.crcParams [0xAA])) 0xF5) ∧
    (([] : List Byte).length ≤ 1023 ∧ crc16 State.reset.crcParams ([] ++ [lo (crc16 State.reset.crcParams [])]) ≠
      le16 (hi (crc16 State.reset.crcParams [])) 0xF5) ∧
    ((List.replicate 1023 (0 : Byte)).length ≤ 1023 ∧ ∃ b,
      crc16 State.reset.crcParams (List.replicate 1023 0 ++ [lo (crc16 State.reset.crcParams (List.replicate 1023 0))]) ≠
        le16 (hi (crc16 State.reset.crcParams (List.replicate 1023 0))) b) ∧
    (List.replicate 1024 (0 : Byte)).length = 1024 := by
  have other (x : Word) (h : Byte) : ∃ b, x ≠ le16 h b := by
    by_cases e : x = le16 h 0
    · refine ⟨1, fun e' => ?_⟩
      have := congrArg hi (e.symm.trans e')
      simp at this
    · exact ⟨0, e⟩
  refine ⟨by decide +kernel, by decide +kernel, ⟨by rw [List.length_replicate], other _ _⟩, List.length_replicate⟩

theorem test_witness_StalledFrameHoldsTheDecoder :
    (build .receiving 1 5 [0x01] false).st = .receiving ∧ (build .receiving 1 5 [0x01] false).exp.toNat ≤ 1026 ∧
    (build .receiving 1 5 [0x01] false).cur.toNat + ([0xF5, 0xF5, 0xF5] : List Byte).length <
      (build .receiving 1 5 [0x01] false).exp.toNat := by decide

/-- All but the last byte of S1's frame, and that byte. -/
theorem test_witness_DeliveredMeansTheFrameWasReceived :
    State.reset.st = .awaitingStart ∧
    (∀ k v, 1 ≤ k → k ≤ (s1.take 9).length → feedBytes ((s1.take 9).take k) State.reset = .next v → v.st ≠ .awaitingStart) ∧
    (∃ t, feedBytes (s1.take 9) State.reset = .next t ∧ decide (t.dlv = []) = true) ∧
    ∃ u, andThen (feedBytes (s1.take 9) State.reset) (exec (.rxb 0xAD)) = .next u ∧
      decide (u.dlv = [[0x01, 0x02, 0x03]]) = true := by
  refine ⟨rfl, fun k v h1 hk hv hst => ?_, exists_next (by decide +kernel), exists_next (by decide +kernel)⟩
  have h : ∀ k < 10, 1 ≤ k →
      (after (feedBytes ((s1.take 9).take k) State.reset)).all (fun v => decide (v.st ≠ .awaitingStart)) = true := by
    decide +kernel
  have hk : k ≤ 9 := hk
  have := h k (by omega) h1
  rw [hv] at this
  simp [after, hst] at this

theorem test_witness_FeedProcessesTheWholeChunk :
    (waiting [.feed s1]).contended = false ∧ (waiting [.feed s1]).feedHit = false ∧
    (waiting [.feed s1]).inputs = .feed s1 :: [] ∧
    ∃ u, feedBytes s1 (waiting []) = .next u ∧ decide (u.dlv = [[0x01, 0x02, 0x03]]) = true :=
  ⟨rfl, rfl, rfl, exists_next (by decide +kernel)⟩

theorem test_witness_DecodeOfEncodeIsTheInstruction :
    (Instr.frame [0x01]).wf = true ∧ (Instr.enc [0x01]).wf = true ∧ (Instr.reserved 0x07).wf = true := by decide

/-- Also for StepRunsTheChunkFed. -/
theorem test_witness_DecodedBytesAreTheEncoding :
    decode Config.crcDefault .command [0x04, 0xF5, 0x02] = .ok (.rxb 0xF5, [0x02]) ∧
    decode Config.crcDefault .wire (err ++ [0x00]) = .ok (.errframe, [0x00]) :=
  ⟨rfl, by decide +kernel⟩

/-- Also for ChunkingMakesNoDifference, LawfulRunsNeverStop, ChecksumParametersNeverChange and HistoriesOnlyGrow. -/
theorem test_witness_StepKeepsTheInvariants :
    Inv (waiting [.feed [0xF5]]) ∧ LawfulHandler (waiting [.feed [0xF5]]) ∧ (waiting [.feed [0xF5]]).contended = false ∧
    ∃ t, step (waiting [.feed [0xF5]]) = .next t ∧ decide (t.st = .awaitingLength) = true :=
  ⟨{ test_inv_reset_and_cached.1 with }, by decide, rfl, exists_next (by decide +kernel)⟩

theorem test_witness_StepRunsTheCommandDecoded :
    ((waiting [.command [0xF5, 0x02]]).setHeld [0x04]).contended = false ∧
    ((waiting [.command [0xF5, 0x02]]).setHeld [0x04]).inputs = .command [0xF5, 0x02] :: [] ∧
    decodeCommand (((waiting [.command [0xF5, 0x02]]).setHeld [0x04]).heldCommand ++ [0xF5, 0x02]) = .ok (.rxb 0xF5, [0x02]) ∧
    decodeCommand ((waiting [.command [0x04]]).heldCommand ++ [0x04]) = .error .truncated := ⟨rfl, rfl, rfl, rfl⟩

/-- Both clauses: a whole frame at the front; a byte outside a frame; a byte inside one. -/
theorem test_witness_StepRunsTheChunkFed :
    ((waiting [.feed s1]).contended = false ∧ (waiting [.feed s1]).inputs = .feed s1 :: [] ∧
      (waiting [.feed s1]).st = .awaitingStart ∧ decodeWire Config.crcDefault s1 = .ok (.frame [0x01, 0x02, 0x03], [])) ∧
    ((waiting [.feed [0x00]]).inputs = .feed (0x00 :: []) :: [] ∧ decodeWire Config.crcDefault [0x00] = .error .noStartMarker) ∧
    ((build .receiving 1 5 [0x01] false).setInputs [.feed [0x02]]).st ≠ .awaitingStart :=
  ⟨⟨rfl, rfl, rfl, by decide +kernel⟩, ⟨rfl, rfl⟩, by decide⟩

theorem test_witness_StepWithoutAnOperation :
    (State.reset.contended = false ∧ State.reset.inputs = []) ∧
    ((waiting [.resetLine]).contended = false ∧ (waiting [.resetLine]).inputs = .resetLine :: []) ∧
    (State.reset.setContended true).contended = true := ⟨⟨rfl, rfl⟩, ⟨rfl, rfl⟩, rfl⟩

end Sys2Proof.Tests
end

section
/-! PROOFS. The invariants of 10_state.md R34 along a step: what RXB does on each kind of byte, what every update keeps, and from
these that no operation faults under the invariants or breaks them. -/

namespace Sys2Proof.Machine

/-! ### Operations of the encoder side -/

/-- An operation of the encoder side does the same whether the host or the handler issues it (R144). -/
theorem exec_of_encoderSide {i : Instr} (h : encoderSide i = true) (s : State) : exec i s = finishOp (handlerOp i s) := by
  cases i with
  | enc _ => rfl
  | rpt => rfl
  | raw _ => rfl
  | crc _ => rfl
  | setos => rfl
  | reserved _ => rfl
  | rst => cases h
  | rxb _ => cases h
  | frame _ => cases h
  | errframe => cases h

/-- The instructions that are no operation of the encoder side. -/
theorem cases_of_not_encoderSide {i : Instr} (h : encoderSide i = false) :
    i = .rst ∨ (∃ b, i = .rxb b) ∨ (∃ p, i = .frame p) ∨ i = .errframe := by
  cases i <;> simp_all [encoderSide]

/-! ### RXB by the kind of the byte (41_decoder.md R131 to R139) -/

section Rxb
variable {s : State}

theorem rxbOp_of_scanning (b : Byte) (hst : s.st = .awaitingStart) : rxbOp b s = .next (rxbStart b s) := by
  simp [rxbOp, hst]

/-- One of the first three header bytes is stored (R132). -/
theorem rxbOp_headerByte (b : Byte) (hst : s.st = .awaitingLength) (hc : s.cur.toNat < 3) :
    rxbOp b s = .next (s.pushRx b, OpResult.plain .ok) := by
  have hn : (s.pushRx b).cur.toNat < Config.hdrLen := by
    rw [State.pushRx_cur, toNat_succ (by omega)]
    simp only [Config.hdrLen]
    omega
  simp only [rxbOp, hst, rxbLength]
  rw [storeRx_of_lt b _ (by omega), if_pos hn]

/-- The fourth header byte is stored and the header is judged (R133). -/
theorem rxbOp_headerLast (h3 : Byte) {h0 h1 h2 : Byte} (hst : s.st = .awaitingLength) (hc : s.cur.toNat = 3)
    (hr : s.rxbuf.readBytes 0 3 = some [h0, h1, h2]) :
    rxbOp h3 s = .next (validateHeader h0 h1 h2 h3 (s.pushRx h3)) := by
  have hn : ¬ (s.pushRx h3).cur.toNat < Config.hdrLen := by
    rw [State.pushRx_cur, toNat_succ (by omega), hc]
    decide
  have hr : (s.pushRx h3).rxbuf.readBytes 0 4 = some [h0, h1, h2, h3] := by
    rw [State.pushRx_rxbuf, hc]
    exact Memory.readBytes_writeByte_snoc h3 hr
  have read (k : Nat) (hk : k < 4) : (s.pushRx h3).rxbuf.readByte k = [h0, h1, h2, h3][k]? := by
    simpa using Memory.readByte_of_readBytes hr hk
  simp only [rxbOp, hst, rxbLength]
  rw [storeRx_of_lt h3 _ (by omega), if_neg hn,
    readRx_of_some _ (by decide) (read 0 (by decide)), readRx_of_some _ (by decide) (read 1 (by decide)),
    readRx_of_some _ (by decide) (read 2 (by decide)), readRx_of_some _ (by decide) (read 3 (by decide))]

/-- A body byte that is not the last is stored (R137). -/
theorem rxbOp_bodyByte (b : Byte) (hst : s.st = .receiving) (he : s.exp.toNat ≤ 1026)
    (hc : s.cur.toNat + 1 < s.exp.toNat) : rxbOp b s = .next (s.pushRx b, OpResult.plain .ok) := by
  have hn : (s.pushRx b).cur < (s.pushRx b).exp := by
    rw [State.pushRx_cur, State.pushRx_exp, BitVec.lt_def, toNat_succ (by omega)]
    exact hc
  simp only [rxbOp, hst, rxbReceive]
  rw [storeRx_of_lt b _ (by omega), if_pos hn]

/-- A whole frame in RXBUF is judged by its last two bytes, in a state whose `ST` is already `AwaitingStart` (R138, R139). -/
theorem completeFrame_of_read {c0 c1 : Byte} {body : List Byte} (he : s.exp.toNat ≤ 1026)
    (hr : s.rxbuf.readBytes 0 s.exp.toNat = some (body ++ [c0, c1])) :
    completeFrame s = judgeBody body (le16 c0 c1) s.endFrame := by
  have hl : s.exp.toNat = body.length + 2 := by simpa using (Memory.length_of_readBytes hr).symm
  have e2 : (s.exp - 2#11).toNat = body.length := by
    rw [toNat_minus (by decide) (by omega)]
    omega
  have e1 : (s.exp - 1#11).toNat = body.length + 1 := by
    rw [toNat_minus (by decide) (by omega)]
    omega
  have hbody : s.rxbuf.readBytes 0 body.length = some body := by
    simpa using Memory.readBytes_slice (j := 0) (k := body.length) hr (by omega)
  have read (k : Nat) (hk : k < s.exp.toNat) : s.rxbuf.readByte k = (body ++ [c0, c1])[k]? := by
    simpa using Memory.readByte_of_readBytes hr hk
  simp only [completeFrame, State.endFrame_exp, e1, e2]
  rw [readRxRange_of_some (s := s.endFrame) _ (by omega) hbody,
    readRx_of_some (s := s.endFrame) (b := c0) _ (by omega) ((read _ (by omega)).trans (by simp)),
    readRx_of_some (s := s.endFrame) (b := c1) _ (by omega) ((read _ (by omega)).trans (by simp))]

/-- The last byte of a frame is stored, and the frame is judged (R138). -/
theorem rxbOp_bodyLast {b c0 c1 : Byte} {bs body : List Byte} (hst : s.st = .receiving) (he : s.exp.toNat ≤ 1026)
    (hc : s.cur.toNat + 1 = s.exp.toNat) (hr : s.rxbuf.readBytes 0 s.cur.toNat = some bs)
    (hb : bs ++ [b] = body ++ [c0, c1]) : rxbOp b s = judgeBody body (le16 c0 c1) (s.pushRx b).endFrame := by
  have hn : ¬ (s.pushRx b).cur < (s.pushRx b).exp := by
    rw [State.pushRx_cur, State.pushRx_exp, BitVec.lt_def, toNat_succ (by omega)]
    omega
  have hread : (s.pushRx b).rxbuf.readBytes 0 (s.pushRx b).exp.toNat = some (body ++ [c0, c1]) := by
    rw [State.pushRx_rxbuf, State.pushRx_exp, ← hc, ← hb]
    exact Memory.readBytes_writeByte_snoc b hr
  simp only [rxbOp, hst, rxbReceive]
  rw [storeRx_of_lt b _ (by omega), if_neg hn, completeFrame_of_read (s := s.pushRx b) he hread]

end Rxb

/-! ### What every update keeps -/

namespace Inv

variable {s : State}

theorem setOs (v : Bool) (h : Inv s) : Inv (s.setOs v) := { h with }

theorem logDelivery (p : List Byte) (h : Inv s) : Inv (s.logDelivery p) := { h with }

theorem record (r : OpResult) (h : Inv s) : Inv (s.record r) := { h with }

theorem recordHandler (r : OpResult) (h : Inv s) : Inv (s.recordHandler r) := { h with }

theorem setHandler (l : List (List Instr)) (h : Inv s) : Inv (s.setHandler l) := { h with }

theorem setInputs (q : List Request) (h : Inv s) : Inv (s.setInputs q) := { h with }

theorem setHeld (l : List Byte) (h : Inv s) : Inv (s.setHeld l) := { h with }

theorem setFeedHit (v : Bool) (h : Inv s) : Inv (s.setFeedHit v) := { h with }

theorem returnFeed (h : Inv s) : Inv s.returnFeed := { h with }

/-- One more transaction takes no earlier frame out of the sink's history. -/
theorem txWrite (f : List Byte) (h : Inv s) : Inv (s.txWrite f) :=
  { h with
    cache := h.cache.imp id fun ⟨p, x, hp, hl, hn, hr, hm⟩ => ⟨p, x, hp, hl, hn, hr, List.mem_append_left _ hm⟩ }

/-- A frame sent the way ENC does is the frame in the cache (R34 item 4). -/
theorem sendFrame {p : List Byte} (x : Bool) (hp : p.length ≤ 1024) (h : Inv s) :
    Inv (sendFrame (frame s.crcParams p x) s) :=
  have hn : (BitVec.ofNat 11 (frame s.crcParams p x).length).toNat = (frame s.crcParams p x).length :=
    toNat_count (by rw [length_frame]; omega)
  { h with
    txWf := Memory.wf_writeBytes h.txWf (by rw [length_frame, Config.txCap]; omega)
    cache := .inr ⟨p, x, hp, rfl, hn.trans (length_frame _ _ _),
      (congrArg _ hn).trans (Memory.readBytes_writeBytes _ _ _), List.mem_append_right _ (List.mem_singleton_self _)⟩ }

/-- Reset, RST's or the reset input's, begins both records again (R190). -/
theorem initialise (h : Inv s) : Inv s.initialise :=
  { h with
    curLegal := Nat.zero_le _
    expLegal := Nat.zero_le _
    noFrame := fun _ => rfl
    headerPart := nofun
    bodyPart := nofun
    cache := .inl ⟨rfl, rfl⟩ }

theorem endFrame (h : Inv s) : Inv s.endFrame :=
  { h with
    noFrame := fun _ => rfl
    headerPart := nofun
    bodyPart := nofun }

/-- On a start marker no header byte has come in yet (R131). -/
theorem startFrame (h : Inv s) : Inv (s.startFrame Config.stx) :=
  { h with
    curLegal := Nat.zero_le _
    noFrame := nofun
    headerPart := fun _ => ⟨[], rfl, Nat.zero_le _, rfl, rfl⟩
    bodyPart := nofun }

/-- A byte stored below the largest length, at a frame boundary. -/
theorem endFrame_pushRx (b : Byte) (hc : s.cur.toNat < 1026) (h : Inv s) : Inv (s.pushRx b).endFrame :=
  { h.endFrame with
    rxWf := Memory.wf_writeByte b h.rxWf (by simp only [Config.rxCap]; omega)
    curLegal := by
      rw [State.endFrame_cur, State.pushRx_cur, toNat_succ (by omega)]
      exact hc
    headerPart := nofun
    bodyPart := nofun }

/-- A header byte but the last keeps item 2 of R34. -/
theorem pushRx_header (b : Byte) (hst : s.st = .awaitingLength) (hc : s.cur.toNat < 3) (h : Inv s) : Inv (s.pushRx b) := by
  obtain ⟨hd, hf, -, hl, hr⟩ := h.headerPart hst
  have hb := h.endFrame_pushRx b (by omega)
  refine { hb with noFrame := ?_, headerPart := fun _ => ⟨hd ++ [b], ?_, ?_, ?_, ?_⟩, bodyPart := ?_ }
  · simp [hst]
  · simp [hf]
  · rw [List.length_append, List.length_singleton]
    omega
  · rw [State.pushRx_cur, toNat_succ (by omega), hl, List.length_append, List.length_singleton]
  · rw [State.pushRx_rxbuf, hl, List.length_append, List.length_singleton]
    exact Memory.readBytes_writeByte_snoc b hr
  · simp [hst]

/-- A body byte but the last keeps item 3 of R34. -/
theorem pushRx_body (b : Byte) (hst : s.st = .receiving) (hc : s.cur.toNat + 1 < s.exp.toNat) (h : Inv s) :
    Inv (s.pushRx b) := by
  obtain ⟨n, body, hn, he, hf, hl, -, hr⟩ := h.bodyPart hst
  have hle : s.exp.toNat ≤ 1026 := h.expLegal
  have hb := h.endFrame_pushRx b (by omega)
  refine { hb with noFrame := ?_, headerPart := ?_, bodyPart := fun _ => ⟨n, body ++ [b], hn, he, ?_, ?_, ?_, ?_⟩ }
  · simp [hst]
  · simp [hst]
  · simp [hf]
  · rw [State.pushRx_cur, toNat_succ (by omega), hl, List.length_append, List.length_singleton]
  · rw [List.length_append, List.length_singleton]
    omega
  · rw [State.pushRx_rxbuf, hl, List.length_append, List.length_singleton]
    exact Memory.readBytes_writeByte_snoc b hr

/-- An accepted header begins a body of its LEN (R135). -/
theorem acceptHeader {n : Word} (hn : lengthOk n = true) (hf : s.frameBytes = Config.stx :: header n)
    (h : Inv s.endFrame) : Inv (acceptHeader n s) := by
  obtain ⟨h2, hle⟩ := (lengthOk_iff n).1 hn
  have he : (n.setWidth 11).toNat = n.toNat := by
    rw [BitVec.toNat_setWidth]
    omega
  exact
    { h with
      curLegal := Nat.zero_le _
      expLegal := he.trans_le hle
      noFrame := nofun
      headerPart := nofun
      bodyPart := fun _ => ⟨n, [], hn, he, hf.trans (List.append_nil _).symm, rfl, by simp only [List.length_nil]; omega, rfl⟩ }

/-- The reaction to a receive error leaves the error frame in the cache (R206). -/
theorem rejectFrame (kind : ResultCode) (h : Inv s.endFrame) : Inv (rejectFrame kind s).1 := by
  rw [rejectFrame_eq]
  exact h.sendFrame (p := errPayload) s.os (by decide)

/-- Whatever the tests of a header say, the four bytes since the STX leave a state with the invariants (R133 to R135). -/
theorem validateHeader {h0 h1 h2 h3 : Byte} (hf : s.frameBytes = [Config.stx, h0, h1, h2, h3]) (h : Inv s.endFrame) :
    Inv (validateHeader h0 h1 h2 h3 s).1 := by
  rcases validateHeader_cases h0 h1 h2 h3 s with ⟨hr, hl, e⟩ | ⟨-, -, e⟩ | ⟨-, e⟩ <;> rw [e]
  · exact h.acceptHeader hl (hf.trans (congrArg _ (header_of_redundancyOk hr)))
  · exact h.rejectFrame _
  · exact h.rejectFrame _

end Inv

/-! ### Answers that are safe -/

/-- The answer is no fault, and a next state has `P`. -/
def Safe {α : Type} (P : α → Prop) : Host.Outcome α Fault Refusal → Prop
  | .next a => P a
  | .fault _ => False
  | .refused _ => True

section Safe
variable {α β : Type} {P : α → Prop} {Q : β → Prop} {o : Host.Outcome α Fault Refusal}

@[simp] theorem safe_next (a : α) : Safe P (.next a) ↔ P a := .rfl

@[simp] theorem safe_refused (r : Refusal) : Safe P (.refused r) := trivial

theorem Safe.of_eq_next {a : α} (h : Safe P o) (e : o = .next a) : P a := by rwa [e] at h

theorem Safe.ne_fault (h : Safe P o) (f : Fault) : o ≠ .fault f := by
  rintro rfl
  exact h

theorem Safe.andThen {k : α → Host.Outcome β Fault Refusal} (h : Safe P o) (hk : ∀ a, P a → Safe Q (k a)) :
    Safe Q (andThen o k) := by
  cases o with
  | next a => exact hk a h
  | fault f => exact h
  | refused r => trivial

end Safe

/-- Recording the result of a safe operation is safe. -/
theorem finishOp_safe {a : Answer} (h : Safe (fun q => Inv q.1) a) : Safe Inv (finishOp a) :=
  h.andThen fun q hq => hq.record q.2

/-! ### Every operation is safe under the invariants -/

theorem Inv.encOp {s : State} (p : List Byte) (h : Inv s) : Inv (encOp p s).1 := by
  by_cases hp : p.length ≤ 1024
  · rw [encOp_of_le hp]
    exact h.sendFrame s.os hp
  · rw [encOp_of_gt (by omega)]
    exact h

/-- RPT finds the cache empty, or holding a frame inside TXBUF (R34 item 4). -/
theorem rptOp_safe {s : State} (h : Inv s) : Safe (fun q => Inv q.1) (rptOp s) := by
  rcases h.cache with ⟨h0, -⟩ | ⟨p, x, hp, -, hn, hr, -⟩
  · rw [rptOp_of_empty h0]
    exact h
  · have h0 : s.txlen ≠ 0#11 := by
      intro h0
      rw [h0] at hn
      simp at hn
    have hle : s.txlen.toNat ≤ 1031 := by
      rw [hn, Config.frameOverhead]
      simp only [Config.maxPayload] at hp
      omega
    rw [rptOp_of_cached h0 hle hr]
    exact h.txWrite _

theorem handlerOp_safe (i : Instr) {s : State} (h : Inv s) : Safe (fun q => Inv q.1) (handlerOp i s) := by
  cases i with
  | enc p => exact h.encOp p
  | rpt => exact rptOp_safe h
  | raw bytes => exact h.txWrite bytes
  | crc _ => exact h
  | setos => exact h.setOs true
  | reserved _ => exact h
  | rst => trivial
  | rxb _ => trivial
  | frame _ => trivial
  | errframe => trivial

theorem runHandler_safe (ops : List Instr) {s : State} (h : Inv s) : Safe Inv (runHandler ops s) := by
  induction ops generalizing s with
  | nil => exact h
  | cons i rest ih => exact (handlerOp_safe i h).andThen fun q hq => ih (hq.recordHandler q.2)

theorem deliver_safe (p : List Byte) {s : State} (h : Inv s) : Safe Inv (deliver p s) := by
  unfold deliver
  split
  · exact h.logDelivery p
  · exact runHandler_safe _ ((h.logDelivery p).setHandler _)

theorem judgeBody_safe (body : List Byte) (t : Word) {s : State} (h : Inv s) : Safe (fun q => Inv q.1) (judgeBody body t s) := by
  unfold judgeBody
  split
  · exact (deliver_safe body h).andThen fun _ hu => hu
  · exact h.endFrame.rejectFrame _

/-- A list of at least two bytes ends in a trailer. -/
theorem exists_body_trailer {l : List Byte} (h : 2 ≤ l.length) : ∃ body c0 c1, l = body ++ [c0, c1] := by
  obtain ⟨c0, c1, hc⟩ := List.length_eq_two.1 (show (l.drop (l.length - 2)).length = 2 by rw [List.length_drop]; omega)
  exact ⟨l.take (l.length - 2), c0, c1, by rw [← hc, List.take_append_drop]⟩

/-- RXB finds in RXBUF the bytes that items 2 and 3 of R34 say are there. -/
theorem rxbOp_safe (b : Byte) {s : State} (h : Inv s) : Safe (fun q => Inv q.1) (rxbOp b s) := by
  cases hst : s.st with
  | awaitingStart =>
    rw [rxbOp_of_scanning b hst, safe_next, rxbStart]
    split
    · subst b
      exact h.startFrame
    · exact h
  | awaitingLength =>
    obtain ⟨hd, hf, hle, hl, hr⟩ := h.headerPart hst
    by_cases hc : s.cur.toNat < 3
    · rw [rxbOp_headerByte b hst hc]
      exact h.pushRx_header b hst hc
    · have h3 : hd.length = 3 := by omega
      obtain ⟨h0, h1, h2, rfl⟩ := List.length_eq_three.1 h3
      rw [rxbOp_headerLast b hst (hl.trans h3) hr]
      exact (h.endFrame_pushRx b (by omega)).validateHeader (by simp [hf])
  | receiving =>
    obtain ⟨n, body, hn, he, -, hl, hlt, hr⟩ := h.bodyPart hst
    have hle : s.exp.toNat ≤ 1026 := h.expLegal
    by_cases hc : s.cur.toNat + 1 < s.exp.toNat
    · rw [rxbOp_bodyByte b hst hle hc]
      exact h.pushRx_body b hst hc
    · have h2 := ((lengthOk_iff n).1 hn).1
      obtain ⟨p, c0, c1, hp⟩ := exists_body_trailer (l := body ++ [b]) (by simp; omega)
      rw [rxbOp_bodyLast hst hle (by omega) (hl ▸ hr) hp]
      exact judgeBody_safe p _ (h.endFrame_pushRx b (by omega))

theorem feedBytes_safe (bytes : List Byte) {s : State} (h : Inv s) : Safe Inv (feedBytes bytes s) := by
  induction bytes generalizing s with
  | nil => exact h
  | cons b rest ih => exact (finishOp_safe (rxbOp_safe b h)).andThen fun _ ht => ih ht

theorem exec_safe (i : Instr) {s : State} (h : Inv s) : Safe Inv (exec i s) := by
  cases hi : encoderSide i with
  | true =>
    rw [exec_of_encoderSide hi]
    exact finishOp_safe (handlerOp_safe i h)
  | false =>
    rcases cases_of_not_encoderSide hi with rfl | ⟨b, rfl⟩ | ⟨p, rfl⟩ | rfl
    · exact h.initialise.record _
    · exact finishOp_safe (rxbOp_safe b h)
    · exact feedBytes_safe _ h
    · exact feedBytes_safe _ h

/-! ### What is fetched -/

/-- The state in which the step goes on has `P`. -/
def Fetched.Holds (P : State → Prop) : Fetched → Prop
  | .refuse => True
  | .quiet t => P t
  | .run _ t => P t
  | .runFed _ t => P t

/-- A fetch changes the state by updates of the ports, the return of `feed` and the reset input. -/
theorem FetchCase.holds {P : State → Prop} {s : State} {f : Fetched} (hf : FetchCase s f) (h : P s)
    (hin : ∀ q t, P t → P (t.setInputs q)) (hheld : ∀ l t, P t → P (t.setHeld l)) (hret : ∀ t, P t → P t.returnFeed)
    (hinit : ∀ t, P t → P t.initialise) : f.Holds P := by
  cases hf with
  | contended => trivial
  | idle => exact h
  | reset _ rest => exact hinit _ (hin rest _ h)
  | held => exact hin _ _ (hheld _ _ h)
  | command => exact hin _ _ (hheld _ _ h)
  | feedEnds _ rest => exact hret _ (hin rest _ h)
  | fed => exact hin _ _ h

/-- A step of a state with the invariants does not fault, and its next state has them too. -/
theorem step_safe {s : State} (h : Inv s) : Safe Inv (step s) := by
  have hf : (fetch s).Holds Inv := (fetch_case s).holds h (fun q _ h => h.setInputs q) (fun l _ h => h.setHeld l)
    (fun _ h => h.returnFeed) (fun _ h => h.initialise)
  unfold step
  split <;> rename_i e <;> rw [e] at hf
  · trivial
  · exact hf
  · exact exec_safe _ hf
  · exact (exec_safe _ hf).andThen fun _ hu => hu.setFeedHit _

/-- Settles O52: no step has an answer outside the invariants. -/
theorem stepKeepsTheInvariants : Obligations.StepKeepsTheInvariants :=
  fun _ _ h e => (step_safe h).of_eq_next e

/-- Settles O53: RXB and RPT read only bytes that the invariants say are there. -/
theorem noFaultUnderTheInvariants : Obligations.NoFaultUnderTheInvariants :=
  fun _ f h => (step_safe h).ne_fault f

/-! ### After reset -/

/-- Settles O50: each clause is a field of the state after reset. -/
theorem resetState : Obligations.ResetState :=
  ⟨rfl, rfl, rfl, rfl, rfl, rfl, rfl, fun _ => rfl, fun _ => rfl⟩

/-- Settles O51: scanning, with an empty cache and unwritten buffers. -/
theorem resetSatisfiesTheInvariants : Obligations.ResetSatisfiesTheInvariants where
  rxWf := rfl
  txWf := rfl
  curLegal := Nat.zero_le _
  expLegal := Nat.zero_le _
  noFrame := fun _ => rfl
  headerPart := nofun
  bodyPart := nofun
  cache := .inl ⟨rfl, rfl⟩

end Sys2Proof.Machine
end

section
/-! PROOFS. Relations between the state before and after an operation: one that the elementary updates meet, that is reflexive and
that is transitive holds across every instruction but RST. From it: what empties the cache (10_state.md R26), and that no history
is taken back (R33, 20_memory.md R55). -/

namespace Sys2Proof.Machine

/-! ### Relations across an instruction -/

/-- The updates that the decoder makes of its own elements. -/
inductive DecoderUpdate : State → State → Prop where
  | startFrame (b : Byte) (s : State) : DecoderUpdate s (s.startFrame b)
  | pushRx (b : Byte) (s : State) : DecoderUpdate s (s.pushRx b)
  | acceptHeader (n : Word) (s : State) : DecoderUpdate s (acceptHeader n s)
  | endFrame (s : State) : DecoderUpdate s s.endFrame

/-- A reflexive and transitive relation that holds across what an instruction other than RST is made of: the decoder's updates,
an operation of the encoder side, a delivery, a result. -/
structure Closed (R : State → State → Prop) : Prop where
  refl : ∀ s, R s s
  trans : ∀ {s t u}, R s t → R t u → R s u
  decoder : ∀ {s t}, DecoderUpdate s t → R s t
  handlerOp : ∀ {i s q}, handlerOp i s = .next q → R s q.1
  logDelivery : ∀ p s, R s (s.logDelivery p)
  setHandler : ∀ l s, R s (s.setHandler l)
  record : ∀ r s, R s (s.record r)
  recordHandler : ∀ r s, R s (s.recordHandler r)

namespace Closed

variable {R : State → State → Prop} {s t : State}

theorem runHandler (hR : Closed R) {ops : List Instr} (h : runHandler ops s = .next t) : R s t := by
  induction ops generalizing s with
  | nil =>
    cases h
    exact hR.refl _
  | cons i rest ih =>
    obtain ⟨q, hq, h⟩ := andThen_eq_next.1 h
    exact hR.trans (hR.handlerOp hq) (hR.trans (hR.recordHandler q.2 q.1) (ih h))

theorem deliver (hR : Closed R) {p : List Byte} (h : deliver p s = .next t) : R s t := by
  unfold Machine.deliver at h
  split at h
  · cases h
    exact hR.logDelivery p s
  · exact hR.trans (hR.logDelivery p s) (hR.trans (hR.setHandler _ _) (hR.runHandler h))

/-- A rejected frame: the decoder's return to scanning, and ENC of the error frame's payload (R108, R206). -/
theorem rejectFrame (hR : Closed R) (kind : ResultCode) (s : State) : R s (rejectFrame kind s).1 :=
  hR.trans (hR.decoder (.endFrame s)) (hR.handlerOp (i := .enc errPayload) (q := encOp errPayload s.endFrame) rfl)

theorem validateHeader (hR : Closed R) (h0 h1 h2 h3 : Byte) (s : State) : R s (validateHeader h0 h1 h2 h3 s).1 := by
  rcases validateHeader_cases h0 h1 h2 h3 s with ⟨-, -, e⟩ | ⟨-, -, e⟩ | ⟨-, e⟩ <;> rw [e]
  · exact hR.decoder (.acceptHeader _ s)
  · exact hR.rejectFrame _ s
  · exact hR.rejectFrame _ s

theorem rxbRow (hR : Closed R) {b : Byte} {q : State × OpResult} (h : RxbRow b s q) : R s q.1 := by
  have hpush : R s (s.pushRx b) := hR.decoder (.pushRx b s)
  have hlast : R s (s.pushRx b).endFrame := hR.trans hpush (hR.decoder (.endFrame _))
  cases h with
  | discarded => exact hR.refl s
  | started => exact hR.decoder (.startFrame b s)
  | headerByte => exact hpush
  | headerLast => exact hR.trans hpush (hR.validateHeader _ _ _ _ _)
  | bodyByte => exact hpush
  | delivered hst hc hn body c0 c1 rb r0 r1 hl hcrc u hd => exact hR.trans hlast (hR.deliver hd)
  | mismatched => exact hR.trans hlast (hR.rejectFrame _ _)

theorem execRxb (hR : Closed R) {b : Byte} (h : execRxb b s = .next t) : R s t := by
  obtain ⟨q, hq, rfl⟩ := finishOp_eq_next.1 h
  exact hR.trans (hR.rxbRow (rxbOp_rows hq)) (hR.record q.2 q.1)

theorem feedBytes (hR : Closed R) {bytes : List Byte} (h : feedBytes bytes s = .next t) : R s t := by
  induction bytes generalizing s with
  | nil =>
    cases h
    exact hR.refl _
  | cons b rest ih =>
    obtain ⟨u, hu, h⟩ := andThen_eq_next.1 h
    exact hR.trans (hR.execRxb hu) (ih h)

theorem exec (hR : Closed R) {i : Instr} (hi : i ≠ .rst) (h : exec i s = .next t) : R s t := by
  cases he : encoderSide i with
  | true =>
    rw [exec_of_encoderSide he] at h
    obtain ⟨q, hq, rfl⟩ := finishOp_eq_next.1 h
    exact hR.trans (hR.handlerOp hq) (hR.record q.2 q.1)
  | false =>
    rcases cases_of_not_encoderSide he with rfl | ⟨b, rfl⟩ | ⟨p, rfl⟩ | rfl
    · exact absurd rfl hi
    · exact hR.execRxb h
    · exact hR.feedBytes h
    · exact hR.feedBytes h

end Closed

/-! ### The cache -/

/-- If the cache is empty afterwards, it was empty before. -/
def CacheKept (s t : State) : Prop := t.txlen = 0#11 → s.txlen = 0#11

/-- ENC empties no cache: a frame has 7 to 1031 bytes (R100). -/
theorem cacheKept_encOp (p : List Byte) (s : State) : CacheKept s (encOp p s).1 := by
  by_cases hp : p.length ≤ 1024
  · intro h
    rw [encOp_of_le hp] at h
    have h : (BitVec.ofNat 11 (frame s.crcParams p s.os).length).toNat = 0 := congrArg BitVec.toNat h
    rw [length_frame, toNat_count (by omega)] at h
    omega
  · rw [encOp_of_gt (by omega)]
    exact id

theorem cacheKept_handlerOp {i : Instr} {s : State} {q : State × OpResult} (h : handlerOp i s = .next q) :
    CacheKept s q.1 := by
  cases i with
  | enc p => cases h; exact cacheKept_encOp p s
  | rpt =>
    rcases (rptOp_eq_next h).2 with ⟨h0, -⟩ | ⟨-, -, f, -, e⟩
    · exact fun _ => h0
    · rw [e]
      exact id
  | raw _ => cases h; exact id
  | crc _ => cases h; exact id
  | setos => cases h; exact id
  | reserved _ => cases h; exact id
  | rst => cases h
  | rxb _ => cases h
  | frame _ => cases h
  | errframe => cases h

theorem cacheKept_closed : Closed CacheKept where
  refl _ := id
  trans h1 h2 := h1 ∘ h2
  decoder h := by cases h <;> exact id
  handlerOp := cacheKept_handlerOp
  logDelivery _ _ := id
  setHandler _ _ := id
  record _ _ := id
  recordHandler _ _ := id

/-- Settles O34: `TXLEN` is written by RST and by ENC of a frame, which is not empty. -/
theorem cacheEmptiedOnlyByReset : Obligations.CacheEmptiedOnlyByReset := by
  intro i s t h h0
  by_cases hi : i = .rst
  · exact .inr hi
  · exact .inl (cacheKept_closed.exec hi h h0)

/-! ### The histories -/

/-- Each history of `s` is the beginning of that of `t`. -/
structure HistoriesGrow (s t : State) : Prop where
  tx : s.tx <+: t.tx
  dlv : s.dlv <+: t.dlv
  results : s.results <+: t.results
  handlerResults : s.handlerResults <+: t.handlerResults
  feedReturns : s.feedReturns <+: t.feedReturns

namespace HistoriesGrow

variable {s t u : State}

theorem refl (s : State) : HistoriesGrow s s :=
  ⟨List.prefix_rfl, List.prefix_rfl, List.prefix_rfl, List.prefix_rfl, List.prefix_rfl⟩

theorem trans (h : HistoriesGrow s t) (k : HistoriesGrow t u) : HistoriesGrow s u :=
  ⟨h.tx.trans k.tx, h.dlv.trans k.dlv, h.results.trans k.results, h.handlerResults.trans k.handlerResults,
    h.feedReturns.trans k.feedReturns⟩

theorem of_encoderStep (h : EncoderStep s t) : HistoriesGrow s t := by
  obtain ⟨m, n, o, x, l, rfl⟩ := h.rest
  exact { refl s with tx := List.prefix_append s.tx x }

theorem closed : Closed HistoriesGrow where
  refl := refl
  trans := trans
  decoder h := by cases h <;> exact { refl _ with }
  handlerOp h := of_encoderStep (handlerOp_step h)
  logDelivery p s := { refl s with dlv := List.prefix_append s.dlv [p] }
  setHandler _ s := { refl s with }
  record r s := { refl s with results := List.prefix_append s.results [r] }
  recordHandler r s := { refl s with handlerResults := List.prefix_append s.handlerResults [r] }

theorem returnFeed (s : State) : HistoriesGrow s s.returnFeed :=
  { refl s with feedReturns := List.prefix_append s.feedReturns [s.feedHit] }

/-- Neither reset takes back an output (R190). -/
theorem initialise (s : State) : HistoriesGrow s s.initialise := { refl s with }

theorem exec {i : Instr} (h : exec i s = .next t) : HistoriesGrow s t := by
  by_cases hi : i = .rst
  · subst hi
    cases h
    exact (initialise s).trans (closed.record _ _)
  · exact closed.exec hi h

theorem fetch (s : State) : (fetch s).Holds (HistoriesGrow s) :=
  (fetch_case s).holds (refl s) (fun _ _ h => { h with }) (fun _ _ h => { h with })
    (fun t h => h.trans (returnFeed t)) (fun t h => h.trans (initialise t))

theorem step (h : step s = .next t) : HistoriesGrow s t := by
  have hf := fetch s
  unfold Machine.step at h
  split at h <;> rename_i e <;> rw [e] at hf
  · cases h
  · cases h
    exact hf
  · exact hf.trans (exec h)
  · obtain ⟨u, hu, h⟩ := andThen_eq_next.1 h
    cases h
    exact { hf.trans (exec hu) with }

end HistoriesGrow

/-- Settles O60: every update of a history appends to it. -/
theorem historiesOnlyGrow : Obligations.HistoriesOnlyGrow := by
  intro s t h
  obtain ⟨⟨a, ha⟩, ⟨b, hb⟩, ⟨c, hc⟩, ⟨d, hd⟩, ⟨e, he⟩⟩ := HistoriesGrow.step h
  exact ⟨⟨a, ha.symm⟩, ⟨b, hb.symm⟩, ⟨c, hc.symm⟩, ⟨d, hd.symm⟩, ⟨e, he.symm⟩⟩

end Sys2Proof.Machine
end

section
/-! PROOFS. One driver and a handler that keeps to its contract (20_memory.md R64, 41_decoder.md R144): where an operation is
refused, that nothing else is, and that every run completes; and what a step does with the command port (R59). -/

namespace Sys2Proof.Machine

/-! ### Answers that are no refusal -/

/-- The answer is no refusal, and a next state has `P`. -/
def Unrefused {α : Type} (P : α → Prop) : Host.Outcome α Fault Refusal → Prop
  | .next a => P a
  | .fault _ => True
  | .refused _ => False

section Unrefused
variable {α β : Type} {P : α → Prop} {Q : β → Prop} {o : Host.Outcome α Fault Refusal}

@[simp] theorem unrefused_next (a : α) : Unrefused P (.next a) ↔ P a := .rfl

theorem Unrefused.andThen {k : α → Host.Outcome β Fault Refusal} (h : Unrefused P o) (hk : ∀ a, P a → Unrefused Q (k a)) :
    Unrefused Q (andThen o k) := by
  cases o with
  | next a => exact hk a h
  | fault f => trivial
  | refused r => exact h.elim

theorem Unrefused.mono {R : α → Prop} (h : Unrefused P o) (hR : ∀ a, o = .next a → P a → R a) : Unrefused R o := by
  cases o with
  | next a => exact hR a rfl h
  | fault f => trivial
  | refused r => exact h

/-- What neither faults nor is refused goes on. -/
theorem Safe.exists_next {R : α → Prop} (hs : Safe P o) (hu : Unrefused R o) : ∃ a, o = .next a ∧ P a ∧ R a := by
  cases o with
  | next a => exact ⟨a, rfl, hs, hu⟩
  | fault f => exact hs.elim
  | refused r => exact hu.elim

end Unrefused

/-! ### The handler's operations -/

/-- An operation of the encoder side is never refused. -/
theorem handlerOp_unrefused {i : Instr} (hi : encoderSide i = true) (s : State) :
    Unrefused (fun q => EncoderStep s q.1) (handlerOp i s) := by
  have h : Unrefused (fun _ => True) (handlerOp i s) := by
    cases i with
    | rpt =>
      show Unrefused _ (rptOp s)
      unfold rptOp
      split
      · trivial
      · split
        · split <;> trivial
        · trivial
    | enc _ | raw _ | crc _ | setos | reserved _ => trivial
    | rst | rxb _ | frame _ | errframe => cases hi
  exact h.mono fun _ e _ => handlerOp_step e

theorem handlerOp_of_not_encoderSide {i : Instr} (hi : encoderSide i = false) (s : State) :
    handlerOp i s = .refused .nestedOperation := by
  rcases cases_of_not_encoderSide hi with rfl | ⟨b, rfl⟩ | ⟨p, rfl⟩ | rfl <;> rfl

/-- A run of operations of the encoder side is never refused. -/
theorem runHandler_unrefused {ops : List Instr} (h : ∀ i ∈ ops, encoderSide i = true) (s : State) :
    Unrefused (fun _ => True) (runHandler ops s) := by
  induction ops generalizing s with
  | nil => trivial
  | cons i rest ih =>
    obtain ⟨hi, hrest⟩ := List.forall_mem_cons.1 h
    exact (handlerOp_unrefused hi s).andThen fun q _ => ih hrest _

theorem runHandler_append (before after : List Instr) (s : State) :
    runHandler (before ++ after) s = andThen (runHandler before s) (runHandler after) := by
  induction before generalizing s with
  | nil => rfl
  | cons i rest ih =>
    rw [List.cons_append, runHandler, runHandler, andThen_assoc]
    congr 1
    exact funext fun q => ih _

/-- Settles O28: what comes before the operation completes, under the invariants, and the operation is refused. -/
theorem nestedOperationIsRefused : Obligations.NestedOperationIsRefused := by
  intro p s before after i rest hinv hhandler hbefore hi
  have hstart : Inv ((s.logDelivery p).setHandler rest) := (hinv.logDelivery p).setHandler rest
  obtain ⟨t, ht, -⟩ := (runHandler_safe before hstart).exists_next (runHandler_unrefused hbefore _)
  calc deliver p s
    _ = runHandler (before ++ i :: after) ((s.logDelivery p).setHandler rest) := by rw [deliver, hhandler]
    _ = runHandler (i :: after) t := by rw [runHandler_append, ht, andThen_next]
    _ = .refused .nestedOperation := by rw [runHandler, handlerOp_of_not_encoderSide hi, andThen_refused]

/-! ### Every operation, under a handler that keeps to its contract -/

/-- The handler keeps to its contract, and no second driver is issuing (R64). -/
structure Disciplined (s : State) : Prop where
  handler : LawfulHandler s
  driver : s.contended = false

namespace Disciplined

variable {s : State}

theorem encoderStep {t : State} (h : EncoderStep s t) (hs : Disciplined s) : Disciplined t := by
  obtain ⟨m, n, o, x, l, rfl⟩ := h.rest
  exact { hs with }

/-- A delivery uses up one answer of the handler. -/
theorem deliver (p : List Byte) (h : Disciplined s) : Unrefused Disciplined (deliver p s) := by
  have hrun : Unrefused (fun _ => True) (Machine.deliver p s) := by
    unfold Machine.deliver
    split
    · trivial
    · rename_i ops rest hs
      exact runHandler_unrefused (h.handler ops (by simp [hs])) _
  refine hrun.mono fun t e _ => ?_
  obtain ⟨m, n, o, x, l, y, rfl⟩ := deliver_step e
  exact { h with handler := fun ops hops => h.handler ops (List.mem_of_mem_tail hops) }

theorem rejectFrame (kind : ResultCode) (h : Disciplined s) : Disciplined (rejectFrame kind s).1 := by
  rw [rejectFrame_eq]
  exact { h with }

theorem validateHeader (h0 h1 h2 h3 : Byte) (h : Disciplined s) : Disciplined (validateHeader h0 h1 h2 h3 s).1 := by
  rcases validateHeader_cases h0 h1 h2 h3 s with ⟨-, -, e⟩ | ⟨-, -, e⟩ | ⟨-, e⟩ <;> rw [e]
  · exact { h with }
  · exact h.rejectFrame _
  · exact h.rejectFrame _

theorem judgeBody (body : List Byte) (t : Word) (h : Disciplined s) :
    Unrefused (fun q => Disciplined q.1) (judgeBody body t s) := by
  unfold Machine.judgeBody
  split
  · exact (h.deliver body).andThen fun _ hu => hu
  · exact h.rejectFrame _

end Disciplined

section Accesses
variable {α : Type} {P : α → Prop} {s : State}

theorem storeRx_unrefused {b : Byte} {k : State → Host.Outcome α Fault Refusal} (h : Unrefused P (k (s.pushRx b))) :
    Unrefused P (storeRx b s k) := by
  unfold storeRx
  split
  · exact h
  · trivial

theorem readRx_unrefused {i : Nat} {k : Byte → Host.Outcome α Fault Refusal} (h : ∀ b, Unrefused P (k b)) :
    Unrefused P (readRx s i k) := by
  unfold readRx
  split
  · split
    · exact h _
    · trivial
  · trivial

theorem readRxRange_unrefused {i n : Nat} {k : List Byte → Host.Outcome α Fault Refusal} (h : ∀ bs, Unrefused P (k bs)) :
    Unrefused P (readRxRange s i n k) := by
  unfold readRxRange
  split
  · split
    · exact h _
    · trivial
  · trivial

end Accesses

namespace Disciplined

variable {s : State}

theorem rxbOp (b : Byte) (h : Disciplined s) : Unrefused (fun q => Disciplined q.1) (rxbOp b s) := by
  have hpush : Disciplined (s.pushRx b) := { h with }
  unfold Machine.rxbOp
  split
  · rw [unrefused_next, rxbStart]
    split
    · exact { h with }
    · exact h
  · refine storeRx_unrefused ?_
    split
    · exact hpush
    · exact readRx_unrefused fun h0 => readRx_unrefused fun h1 => readRx_unrefused fun h2 => readRx_unrefused fun h3 =>
        hpush.validateHeader h0 h1 h2 h3
  · refine storeRx_unrefused ?_
    split
    · exact hpush
    · have hend : Disciplined (s.pushRx b).endFrame := { h with }
      exact readRxRange_unrefused fun body => readRx_unrefused fun c0 => readRx_unrefused fun c1 => hend.judgeBody body _

theorem finishOp {a : Answer} (h : Unrefused (fun q => Disciplined q.1) a) : Unrefused Disciplined (finishOp a) :=
  h.andThen fun _ hq => { hq with }

theorem feedBytes (bytes : List Byte) (h : Disciplined s) : Unrefused Disciplined (feedBytes bytes s) := by
  induction bytes generalizing s with
  | nil => exact h
  | cons b rest ih => exact (finishOp (h.rxbOp b)).andThen fun _ ht => ih ht

theorem exec (i : Instr) (h : Disciplined s) : Unrefused Disciplined (exec i s) := by
  cases hi : encoderSide i with
  | true =>
    rw [exec_of_encoderSide hi]
    exact finishOp ((handlerOp_unrefused hi s).mono fun _ _ hq => h.encoderStep hq)
  | false =>
    rcases cases_of_not_encoderSide hi with rfl | ⟨b, rfl⟩ | ⟨p, rfl⟩ | rfl
    · exact { h with }
    · exact finishOp (h.rxbOp b)
    · exact h.feedBytes _
    · exact h.feedBytes _

theorem fetch (h : Disciplined s) : (fetch s).Holds Disciplined :=
  (fetch_case s).holds h (fun _ _ h => { h with }) (fun _ _ h => { h with }) (fun _ h => { h with }) (fun _ h => { h with })

theorem fetch_ne_refuse (h : Disciplined s) : Machine.fetch s ≠ .refuse := by
  intro e
  have hcase := fetch_case s
  rw [e] at hcase
  cases hcase with
  | contended hc => exact Bool.false_ne_true (h.driver.symm.trans hc)

/-- A step is refused only where two drivers issue at once or the handler breaks its contract. -/
theorem step (h : Disciplined s) : Unrefused Disciplined (step s) := by
  have hf := h.fetch
  unfold Machine.step
  split <;> rename_i e <;> rw [e] at hf
  · exact h.fetch_ne_refuse e
  · exact hf
  · exact exec _ hf
  · exact (exec _ hf).andThen fun _ hu => { hu with }

end Disciplined

/-! ### Runs -/

/-- A run goes on if its first step does and the rest does from there. -/
theorem run_succ_eq_next {M : Host.Core} {s t : M.State} {k : Nat} :
    M.run (k + 1) s = .next t ↔ ∃ u, M.step s = .next u ∧ M.run k u = .next t := by
  rw [Host.Core.run]
  cases M.step s <;> simp

/-- Settles O54, by induction on the length of the run: a step neither faults (the invariants) nor is refused (one driver, a
lawful handler), and keeps both. -/
theorem lawfulRunsNeverStop : Obligations.LawfulRunsNeverStop := by
  intro n
  induction n with
  | zero => exact fun s hinv hlaw hone => ⟨s, rfl, hinv, hlaw, hone⟩
  | succ n ih =>
    intro s hinv hlaw hone
    obtain ⟨u, hu, hinv, hlaw, hone⟩ := (step_safe hinv).exists_next (Disciplined.step ⟨hlaw, hone⟩)
    obtain ⟨t, ht, hkept⟩ := ih u hinv hlaw hone
    exact ⟨t, (run_succ_eq_next (M := core)).2 ⟨u, hu, ht⟩, hkept⟩

/-! ### The command port -/

theorem fetch_of_command {s : State} {bytes : List Byte} {rest : List Request} (hc : s.contended = false)
    (hq : s.inputs = .command bytes :: rest) : fetch s = fetchCommand bytes rest s := by
  simp [fetch, hc, hq]

theorem requeue_eq (more : List Byte) (rest : List Request) :
    requeue more rest = if more = [] then rest else .command more :: rest := by
  cases more <;> rfl

/-- Settles O56: the bytes held and those that come in are a command, which runs, or a part of one, which is held. -/
theorem stepRunsTheCommandDecoded : Obligations.StepRunsTheCommandDecoded := by
  refine ⟨fun s bytes more rest i hc hq hd => ?_, fun s bytes rest e hc hq hd => ?_⟩
  · have hf : fetch s = .run i ((s.setHeld []).setInputs (requeue more rest)) := by
      rw [fetch_of_command hc hq, fetchCommand, hd]
    rw [step_of_run hf, requeue_eq]
    rfl
  · have hf : fetch s = .quiet ((s.setHeld (s.heldCommand ++ bytes)).setInputs rest) := by
      rw [fetch_of_command hc hq, fetchCommand, hd]
    exact step_of_quiet hf

end Sys2Proof.Machine
end

section
/-! PROOFS. Chunks on the wire-in stream (20_memory.md R65, 41_decoder.md R143, R148): no instruction reads or writes what waits at
the ports, a chunk is the RXB of each of its bytes, and where it is cut makes no difference. -/

namespace Sys2Proof.Machine

/-! ### What waits at the ports -/

/-- The environment's side of the state that no instruction reads or writes: the inputs, the second driver, the call of `feed` in
progress and what earlier calls returned, the bytes held on the command port. -/
structure Ports where
  inputs : List Request
  contended : Bool
  feedHit : Bool
  feedReturns : List Bool
  heldCommand : List Byte

def State.ports (s : State) : Ports := ⟨s.inputs, s.contended, s.feedHit, s.feedReturns, s.heldCommand⟩

def State.setPorts (p : Ports) (s : State) : State :=
  { s with
    inputs := p.inputs
    contended := p.contended
    feedHit := p.feedHit
    feedReturns := p.feedReturns
    heldCommand := p.heldCommand }

section SetPorts
variable (p : Ports) (s : State)

@[simp] theorem State.ports_setPorts : (s.setPorts p).ports = p := rfl
@[simp] theorem State.setPorts_st : (s.setPorts p).st = s.st := rfl
@[simp] theorem State.setPorts_cur : (s.setPorts p).cur = s.cur := rfl
@[simp] theorem State.setPorts_exp : (s.setPorts p).exp = s.exp := rfl
@[simp] theorem State.setPorts_txbuf : (s.setPorts p).txbuf = s.txbuf := rfl
@[simp] theorem State.setPorts_txlen : (s.setPorts p).txlen = s.txlen := rfl
@[simp] theorem State.setPorts_handler : (s.setPorts p).handler = s.handler := rfl
@[simp] theorem State.setPorts_crcParams : (s.setPorts p).crcParams = s.crcParams := rfl

end SetPorts

/-! ### No instruction reads or writes the ports -/

/-- The answer with other ports. -/
def onPorts (p : Ports) (q : State × OpResult) : State × OpResult := (q.1.setPorts p, q.2)

section Commute
variable (p : Ports) (s : State)

theorem encOp_setPorts (payload : List Byte) : encOp payload (s.setPorts p) = onPorts p (encOp payload s) := by
  by_cases h : payload.length ≤ 1024
  · rw [encOp_of_le h, encOp_of_le h]
    rfl
  · rw [encOp_of_gt (by omega), encOp_of_gt (by omega)]
    rfl

theorem rptOp_setPorts : rptOp (s.setPorts p) = andThen (rptOp s) fun q => .next (onPorts p q) := by
  by_cases h0 : s.txlen = 0#11
  · rw [rptOp_of_empty h0, rptOp_of_empty (s := s.setPorts p) h0]
    rfl
  · by_cases hl : s.txlen.toNat ≤ 1031
    · cases hr : s.txbuf.readBytes 0 s.txlen.toNat with
      | none => simp [rptOp, h0, hl, hr]
      | some f =>
        rw [rptOp_of_cached h0 hl hr, rptOp_of_cached (s := s.setPorts p) h0 hl hr]
        rfl
    · simp [rptOp, h0, hl]

theorem handlerOp_setPorts (i : Instr) :
    handlerOp i (s.setPorts p) = andThen (handlerOp i s) fun q => .next (onPorts p q) := by
  cases i with
  | enc payload => exact congrArg _ (encOp_setPorts p s payload)
  | rpt => exact rptOp_setPorts p s
  | raw _ => rfl
  | crc _ => rfl
  | setos => rfl
  | reserved _ => rfl
  | rst => rfl
  | rxb _ => rfl
  | frame _ => rfl
  | errframe => rfl

theorem runHandler_setPorts (ops : List Instr) :
    runHandler ops (s.setPorts p) = andThen (runHandler ops s) fun t => .next (t.setPorts p) := by
  induction ops generalizing s with
  | nil => rfl
  | cons i rest ih =>
    rw [runHandler, runHandler, handlerOp_setPorts, andThen_assoc, andThen_assoc]
    congr 1
    exact funext fun q => ih (q.1.recordHandler q.2)

theorem deliver_setPorts (payload : List Byte) :
    deliver payload (s.setPorts p) = andThen (deliver payload s) fun t => .next (t.setPorts p) := by
  unfold deliver
  rw [State.setPorts_handler]
  split
  · rfl
  · exact runHandler_setPorts p ((s.logDelivery payload).setHandler _) _

theorem rejectFrame_setPorts (kind : ResultCode) :
    rejectFrame kind (s.setPorts p) = onPorts p (rejectFrame kind s) := by
  rw [rejectFrame_eq, rejectFrame_eq]
  rfl

theorem validateHeader_setPorts (h0 h1 h2 h3 : Byte) :
    validateHeader h0 h1 h2 h3 (s.setPorts p) = onPorts p (validateHeader h0 h1 h2 h3 s) := by
  unfold validateHeader
  split
  · split
    · rfl
    · exact rejectFrame_setPorts p s _
  · exact rejectFrame_setPorts p s _

theorem judgeBody_setPorts (body : List Byte) (t : Word) :
    judgeBody body t (s.setPorts p) = andThen (judgeBody body t s) fun q => .next (onPorts p q) := by
  unfold judgeBody
  rw [State.setPorts_crcParams]
  split
  · rw [deliver_setPorts, andThen_assoc, andThen_assoc]
    rfl
  · rw [rejectFrame_setPorts]
    rfl

end Commute

section Accesses
variable {α β : Type}

theorem andThen_storeRx (b : Byte) (s : State) (k : State → Host.Outcome α Fault Refusal)
    (l : α → Host.Outcome β Fault Refusal) : andThen (storeRx b s k) l = storeRx b s fun t => andThen (k t) l := by
  unfold storeRx
  split <;> rfl

theorem andThen_readRx (s : State) (i : Nat) (k : Byte → Host.Outcome α Fault Refusal)
    (l : α → Host.Outcome β Fault Refusal) : andThen (readRx s i k) l = readRx s i fun b => andThen (k b) l := by
  unfold readRx
  split
  · cases s.rxbuf.readByte i <;> rfl
  · rfl

theorem andThen_readRxRange (s : State) (i n : Nat) (k : List Byte → Host.Outcome α Fault Refusal)
    (l : α → Host.Outcome β Fault Refusal) :
    andThen (readRxRange s i n k) l = readRxRange s i n fun bs => andThen (k bs) l := by
  unfold readRxRange
  split
  · cases s.rxbuf.readBytes i n <;> rfl
  · rfl

theorem storeRx_setPorts (p : Ports) (b : Byte) (s : State) (k : State → Host.Outcome α Fault Refusal) :
    storeRx b (s.setPorts p) k = storeRx b s fun t => k (t.setPorts p) := rfl

theorem readRx_setPorts (p : Ports) (s : State) (i : Nat) (k : Byte → Host.Outcome α Fault Refusal) :
    readRx (s.setPorts p) i k = readRx s i k := rfl

theorem readRxRange_setPorts (p : Ports) (s : State) (i n : Nat) (k : List Byte → Host.Outcome α Fault Refusal) :
    readRxRange (s.setPorts p) i n k = readRxRange s i n k := rfl

end Accesses

section Commute
variable (p : Ports) (s : State)

theorem completeFrame_setPorts :
    completeFrame (s.setPorts p) = andThen (completeFrame s) fun q => .next (onPorts p q) := by
  have hend : (s.setPorts p).endFrame = s.endFrame.setPorts p := rfl
  simp only [completeFrame, hend, State.setPorts_exp, readRx_setPorts, readRxRange_setPorts, andThen_readRx,
    andThen_readRxRange, judgeBody_setPorts]

theorem rxbLength_setPorts (b : Byte) :
    rxbLength b (s.setPorts p) = andThen (rxbLength b s) fun q => .next (onPorts p q) := by
  rw [rxbLength, rxbLength, storeRx_setPorts, andThen_storeRx]
  congr 1
  funext t
  rw [State.setPorts_cur]
  split
  · rfl
  · simp only [readRx_setPorts, andThen_readRx, andThen_next, validateHeader_setPorts]

theorem rxbReceive_setPorts (b : Byte) :
    rxbReceive b (s.setPorts p) = andThen (rxbReceive b s) fun q => .next (onPorts p q) := by
  rw [rxbReceive, rxbReceive, storeRx_setPorts, andThen_storeRx]
  congr 1
  funext t
  rw [State.setPorts_cur, State.setPorts_exp]
  split
  · rfl
  · exact completeFrame_setPorts p t

theorem rxbOp_setPorts (b : Byte) : rxbOp b (s.setPorts p) = andThen (rxbOp b s) fun q => .next (onPorts p q) := by
  unfold rxbOp
  rw [State.setPorts_st]
  split
  · unfold rxbStart
    split <;> rfl
  · exact rxbLength_setPorts p s b
  · exact rxbReceive_setPorts p s b

theorem execRxb_setPorts (b : Byte) :
    execRxb b (s.setPorts p) = andThen (execRxb b s) fun t => .next (t.setPorts p) := by
  rw [execRxb, execRxb, finishOp, finishOp, rxbOp_setPorts, andThen_assoc, andThen_assoc]
  rfl

theorem feedBytes_setPorts (bytes : List Byte) :
    feedBytes bytes (s.setPorts p) = andThen (feedBytes bytes s) fun t => .next (t.setPorts p) := by
  induction bytes generalizing s with
  | nil => rfl
  | cons b rest ih =>
    rw [feedBytes_cons, feedBytes_cons, execRxb_setPorts, andThen_assoc, andThen_assoc]
    congr 1
    exact funext fun t => ih t

end Commute

section Fed
variable {bytes : List Byte} {s t : State}

theorem feedBytes_setPorts_of_next (p : Ports) (h : feedBytes bytes s = .next t) :
    feedBytes bytes (s.setPorts p) = .next (t.setPorts p) := by
  rw [feedBytes_setPorts, h, andThen_next]

/-- The bytes of a chunk leave the ports as they are. -/
theorem ports_of_feedBytes (h : feedBytes bytes s = .next t) : t.ports = s.ports := by
  have ht : t = t.setPorts s.ports := Host.Outcome.next.inj (h.symm.trans (feedBytes_setPorts_of_next s.ports h))
  exact (congrArg State.ports ht).trans (State.ports_setPorts _ _)

theorem feedBytes_setInputs (q : List Request) (h : feedBytes bytes s = .next t) :
    feedBytes bytes (s.setInputs q) = .next (t.setInputs q) := by
  have ht : t.setPorts { s.ports with inputs := q } = t.setInputs q := by
    rw [← ports_of_feedBytes h]
    rfl
  exact (feedBytes_setPorts_of_next { s.ports with inputs := q } h).trans (congrArg _ ht)

theorem feedBytes_setFeedHit (v : Bool) (h : feedBytes bytes s = .next t) :
    feedBytes bytes (s.setFeedHit v) = .next (t.setFeedHit v) := by
  have ht : t.setPorts { s.ports with feedHit := v } = t.setFeedHit v := by
    rw [← ports_of_feedBytes h]
    rfl
  exact (feedBytes_setPorts_of_next { s.ports with feedHit := v } h).trans (congrArg _ ht)

end Fed

/-! ### A chunk is the RXB of each of its bytes (R143) -/

/-- Whatever the wire's decoder reads is the row of a payload, and the bytes read are that payload's frame (R70, R133, R134). -/
theorem decodeWire_eq_ok {c : CrcParams} {bytes rest : List Byte} {i : Instr} (h : decodeWire c bytes = .ok (i, rest)) :
    ∃ p : List Byte, i = wireInstr p ∧ p.length ≤ 1024 ∧ bytes = frame c p false ++ rest := by
  unfold decodeWire at h
  split at h
  · cases h
  · split at h
    · rename_i hb
      split at h
      · rename_i h0 h1 h2 h3 tail
        split at h
        · rename_i hr
          split at h
          · rename_i hl
            obtain ⟨p, hi, hp, hle, htail⟩ := decodeBody_eq_ok h
            obtain ⟨hmin, hmax⟩ := (lengthOk_iff _).1 hl
            have hlen : p.length + 2 = (le16 h0 h1).toNat := by
              rw [hp, List.length_take]
              omega
            have hadv : advertisedLen p false = le16 h0 h1 := by
              apply BitVec.eq_of_toNat_eq
              rw [toNat_advertisedLen false (by omega), hlen]
              rfl
            refine ⟨p, hi, by omega, ?_⟩
            rw [frame, hadv, ← header_of_redundancyOk hr, htail, hb]
            simp
          · cases h
        · cases h
      · cases h
    · cases h

/-- Both rows of the wire are the RXB of a frame's bytes. -/
theorem exec_wireInstr (p : List Byte) (s : State) : exec (wireInstr p) s = feedBytes (frame s.crcParams p false) s := by
  unfold wireInstr
  split
  · subst p
    rfl
  · rfl

theorem exec_rxb (b : Byte) (s : State) : exec (.rxb b) s = feedBytes [b] s :=
  (andThen_self (execRxb b s)).symm

/-- The instruction at the front of a chunk is the RXB of some of its bytes, at least one. -/
theorem exec_wireHead (st : DecState) (c : CrcParams) (b : Byte) (bs : List Byte) :
    ∃ taken, taken ≠ [] ∧ b :: bs = taken ++ (wireHead st c b bs).2 ∧
      ∀ s : State, s.crcParams = c → exec (wireHead st c b bs).1 s = feedBytes taken s := by
  have hcases := wireHead_cases st c b bs
  generalize wireHead st c b bs = head at hcases ⊢
  obtain ⟨i, more⟩ := head
  rcases hcases with h | ⟨-, h⟩
  · obtain ⟨rfl, rfl⟩ := Prod.mk.inj h
    exact ⟨[b], List.cons_ne_nil _ _, rfl, fun s _ => exec_rxb b s⟩
  · obtain ⟨p, hi, -, hb⟩ := decodeWire_eq_ok h
    refine ⟨frame c p false, List.cons_ne_nil _ _, hb, fun s hs => ?_⟩
    rw [hi, exec_wireInstr, hs]

theorem step_of_feed_nil {s : State} {rest : List Request} (hc : s.contended = false) :
    step (s.setInputs (.feed [] :: rest)) = .next (s.setInputs rest).returnFeed := by
  apply step_of_quiet
  simp [fetch, hc, State.setInputs]

/-- A step of a chunk takes some of its bytes, at least one, and notes whether they completed a frame. -/
theorem step_of_feed_cons {s : State} (b : Byte) (bs : List Byte) (rest : List Request) (hc : s.contended = false) :
    ∃ taken more, taken ≠ [] ∧ b :: bs = taken ++ more ∧
      step (s.setInputs (.feed (b :: bs) :: rest)) =
        andThen (feedBytes taken (s.setInputs (.feed more :: rest))) fun u => .next (noteDelivery s.results.length u) := by
  obtain ⟨taken, hne, hcut, hexec⟩ := exec_wireHead s.st s.crcParams b bs
  refine ⟨taken, _, hne, hcut, ?_⟩
  rw [← hexec _ (State.setInputs_crcParams _ _)]
  apply step_of_runFed
  simp [fetch, hc, State.setInputs]

/-! ### The whole chunk -/

/-- Some number of steps leads from `s` to `t`. -/
def Reaches (s t : State) : Prop := ∃ k, core.run k s = .next t

theorem Reaches.refl (s : State) : Reaches s s := ⟨0, rfl⟩

theorem Reaches.head {s t u : State} (h : step s = .next t) : Reaches t u → Reaches s u
  | ⟨k, hk⟩ => ⟨k + 1, (run_succ_eq_next (M := core)).2 ⟨t, h, hk⟩⟩

theorem Reaches.trans {s t u : State} (h : Reaches s t) (h' : Reaches t u) : Reaches s u := by
  obtain ⟨k, hk⟩ := h
  induction k generalizing s with
  | zero =>
    cases hk
    exact h'
  | succ k ih =>
    obtain ⟨v, hv, hk⟩ := (run_succ_eq_next (M := core)).1 hk
    exact .head hv (ih hk)

/-- One of the results from index `n` on says that a frame was delivered. -/
def deliveredFrom (n : Nat) (s : State) : Bool := (s.results.drop n).any fun r => decide (r.code = .delivered)

theorem noteDelivery_eq (n : Nat) (s : State) : noteDelivery n s = s.setFeedHit (s.feedHit || deliveredFrom n s) := rfl

/-- The deliveries of two runs of bytes, one after the other. -/
theorem deliveredFrom_trans {as bs : List Byte} {s t u : State} (h : feedBytes as s = .next t)
    (h' : feedBytes bs t = .next u) :
    (deliveredFrom s.results.length t || deliveredFrom t.results.length u) = deliveredFrom s.results.length u := by
  obtain ⟨x, hx⟩ := (HistoriesGrow.closed.feedBytes h).results
  obtain ⟨y, hy⟩ := (HistoriesGrow.closed.feedBytes h').results
  simp [deliveredFrom, ← hy, ← hx]

/-- A delivery noted after each of two runs of bytes is one noted after both. -/
theorem noteDelivery_trans {as bs : List Byte} {s t u : State} (h : feedBytes as s = .next t)
    (h' : feedBytes bs t = .next u) :
    noteDelivery t.results.length (u.setFeedHit (noteDelivery s.results.length t).feedHit) =
      noteDelivery s.results.length u := by
  have hhit : u.feedHit = t.feedHit := congrArg Ports.feedHit (ports_of_feedBytes h')
  calc noteDelivery t.results.length (u.setFeedHit (noteDelivery s.results.length t).feedHit)
    _ = u.setFeedHit (t.feedHit || deliveredFrom s.results.length t || deliveredFrom t.results.length u) := rfl
    _ = noteDelivery s.results.length u := by
      rw [Bool.or_assoc, deliveredFrom_trans h h', noteDelivery_eq, hhit]

/-- The ports when calls of `feed` have returned `hits` and `rest` still waits. -/
def Ports.afterFeeds (rest : List Request) (hits : List Bool) (p : Ports) : Ports :=
  { p with inputs := rest, feedHit := false, feedReturns := p.feedReturns ++ hits }

theorem Ports.afterFeeds_afterFeeds (p : Ports) (q rest : List Request) (hits more : List Bool) :
    (p.afterFeeds q hits).afterFeeds rest more = p.afterFeeds rest (hits ++ more) := by
  simp [Ports.afterFeeds]

/-- The return of `feed` after the bytes of its chunk (R143). -/
theorem returnFeed_of_feedBytes {chunk : List Byte} (rest : List Request) {s u : State} (hu : feedBytes chunk s = .next u) :
    ((noteDelivery s.results.length u).setInputs rest).returnFeed =
      u.setPorts (s.ports.afterFeeds rest [s.feedHit || deliveredFrom s.results.length u]) := by
  have hp : u.ports = s.ports := ports_of_feedBytes hu
  have hhit : u.feedHit = s.feedHit := congrArg Ports.feedHit hp
  rw [← hp, ← hhit]
  rfl

/-- A chunk at the head of the inputs runs as the RXB of its bytes, and the call of `feed` returns (R143). By induction on the
bytes that are left: a step takes at least one of them. -/
theorem reaches_of_feedBytes {chunk : List Byte} (rest : List Request) {s u : State} (hc : s.contended = false)
    (hu : feedBytes chunk s = .next u) :
    Reaches (s.setInputs (.feed chunk :: rest))
      (u.setPorts (s.ports.afterFeeds rest [s.feedHit || deliveredFrom s.results.length u])) := by
  rw [← returnFeed_of_feedBytes rest hu]
  induction hn : chunk.length using Nat.strong_induction_on generalizing chunk s u with
  | _ n ih =>
    cases chunk with
    | nil =>
      cases hu
      have hnote : noteDelivery s.results.length s = s := by simp [noteDelivery, State.setFeedHit]
      rw [hnote]
      exact .head (step_of_feed_nil hc) (.refl _)
    | cons b bs =>
      obtain ⟨taken, more, hne, hcut, hstep⟩ := step_of_feed_cons b bs rest hc
      have hmore : more.length < n := by
        have := List.length_pos_iff.2 hne
        rw [← hn, hcut, List.length_append]
        omega
      rw [hcut, feedBytes_append, andThen_eq_next] at hu
      obtain ⟨v, hv, hu⟩ := hu
      rw [feedBytes_setInputs _ hv, andThen_next] at hstep
      have hcv : v.contended = false := (congrArg Ports.contended (ports_of_feedBytes hv)).trans hc
      have hrest := ih _ hmore (s := noteDelivery s.results.length v) hcv (feedBytes_setFeedHit _ hu) rfl
      rw [← noteDelivery_trans hv hu]
      exact .head hstep hrest

/-- Two chunks at the head of the inputs, one after the other: the second call of `feed` starts afresh. -/
theorem reaches_of_two_chunks {as bs : List Byte} (rest : List Request) {s u v : State} (hc : s.contended = false)
    (hu : feedBytes as s = .next u) (hv : feedBytes bs u = .next v) :
    Reaches (s.setInputs (.feed as :: .feed bs :: rest))
      (v.setPorts (s.ports.afterFeeds rest
        [s.feedHit || deliveredFrom s.results.length u, deliveredFrom u.results.length v])) := by
  have hfirst := reaches_of_feedBytes (.feed bs :: rest) hc hu
  have hsecond := reaches_of_feedBytes rest
    (s := u.setPorts (s.ports.afterFeeds (.feed bs :: rest) [s.feedHit || deliveredFrom s.results.length u]))
    hc (feedBytes_setPorts_of_next _ hv)
  have h := hfirst.trans hsecond
  rwa [State.ports_setPorts, Ports.afterFeeds_afterFeeds] at h

/-- Settles O40: either way the bytes run as their RXB in order, and no RXB reads what the call of `feed` has seen or what earlier
calls returned. -/
theorem chunkingMakesNoDifference : Obligations.ChunkingMakesNoDifference := by
  intro as bs rest s hinv hlaw hone
  obtain ⟨v, hv, -⟩ := (feedBytes_safe (as ++ bs) hinv).exists_next (Disciplined.feedBytes _ ⟨hlaw, hone⟩)
  obtain ⟨u, hu, huv⟩ := andThen_eq_next.1 ((feedBytes_append as bs s).symm.trans hv)
  obtain ⟨j, hj⟩ := reaches_of_two_chunks rest hone hu huv
  obtain ⟨k, hk⟩ := reaches_of_feedBytes rest hone hv
  rw [← deliveredFrom_trans hu huv, ← Bool.or_assoc] at hk
  exact ⟨j, k, v.setPorts (s.ports.afterFeeds rest []), _, _, hj, hk, rfl⟩

end Sys2Proof.Machine
end

section
/-! PROOFS. The encodings of 30_encoding.md: on each port, decoding what was encoded gives it back, and what is decoded was its own
encoding; the reserved words (R84), the words of the spec, and the redundancy test of a header (R73). -/

namespace Sys2Proof

open Sys2Proof.Machine

/-! ### The command port (R82 to R84) -/

/-- The command port's decoder reads back every operation that the encodings can write. -/
theorem decodeCommand_encode {i : Instr} (c : CrcParams) (rest : List Byte) (hp : i.port = .command) (hw : i.wf = true) :
    decodeCommand (encode c i ++ rest) = .ok (i, rest) := by
  cases i with
  | rst => rfl
  | enc p => exact decodeFormatS_encodeOperand .enc rest (of_decide_eq_true hw)
  | rpt => rfl
  | raw s => exact decodeFormatS_encodeOperand .raw rest (of_decide_eq_true hw)
  | rxb b => rfl
  | crc s => exact decodeFormatS_encodeOperand .crc rest (of_decide_eq_true hw)
  | setos => rfl
  | reserved cmd => exact decodeCommand_of_isReserved rest (of_decide_eq_true hw)
  | frame p => cases hp
  | errframe => cases hp

/-- What format B reads is the byte behind the command word. -/
theorem decodeFormatB_eq_ok {mk : Byte → Instr} {bytes rest : List Byte} {i : Instr}
    (h : decodeFormatB mk bytes = .ok (i, rest)) :
    ∃ b, i = mk b ∧ bytes = b :: rest := by
  cases bytes with
  | nil => cases h
  | cons b bytes => cases h; exact ⟨b, rfl, rfl⟩

/-- Whatever the command port's decoder reads is an operation that the encodings can write, and the bytes read are its
encoding. -/
theorem decodeCommand_eq_ok {bytes rest : List Byte} {i : Instr} (c : CrcParams) (h : decodeCommand bytes = .ok (i, rest)) :
    i.wf = true ∧ i.port = .command ∧ bytes = encode c i ++ rest := by
  cases bytes with
  | nil => cases h
  | cons cmd bytes =>
    by_cases hr : isReserved cmd
    · rw [decodeCommand_of_isReserved bytes hr] at h
      cases h
      exact ⟨decide_eq_true hr, rfl, rfl⟩
    · rcases command_of_not_isReserved cmd hr with rfl | rfl | rfl | rfl | rfl | rfl | rfl
      · cases h; exact ⟨rfl, rfl, rfl⟩
      · obtain ⟨p, rfl, hp, rfl⟩ := decodeFormatS_eq_ok (mk := .enc) h
        exact ⟨decide_eq_true hp, rfl, rfl⟩
      · cases h; exact ⟨rfl, rfl, rfl⟩
      · obtain ⟨s, rfl, hs, rfl⟩ := decodeFormatS_eq_ok (mk := .raw) h
        exact ⟨decide_eq_true hs, rfl, rfl⟩
      · obtain ⟨b, rfl, rfl⟩ := decodeFormatB_eq_ok (mk := .rxb) h
        exact ⟨rfl, rfl, rfl⟩
      · obtain ⟨s, rfl, hs, rfl⟩ := decodeFormatS_eq_ok (mk := .crc) h
        exact ⟨decide_eq_true hs, rfl, rfl⟩
      · cases h; exact ⟨rfl, rfl, rfl⟩

/-! ### The wire-in stream (R70, R79) -/

/-- Behind a header of its length, a body with its trailer is the row of that body. -/
theorem decodeBody_trailer (c : CrcParams) (p rest : List Byte) :
    decodeBody c (p.length + 2) (p ++ trailer c p ++ rest) = .ok (wireInstr p, rest) := by
  have hframe : (p ++ trailer c p).length = p.length + 2 := by simp
  have htake : (p ++ trailer c p ++ rest).take (p.length + 2) = p ++ trailer c p := List.take_left' hframe
  have hdrop : (p ++ trailer c p ++ rest).drop (p.length + 2) = rest := List.drop_left' hframe
  have hbody : (p ++ trailer c p ++ rest).take p.length = p := by simp
  have hle : p.length + 2 ≤ (p ++ trailer c p ++ rest).length := by simp
  simp only [decodeBody, Config.crcLen, Nat.add_sub_cancel, hle, htake, hdrop, hbody, List.drop_left, if_true]

/-- The wire's decoder reads a frame back as the row of its payload. -/
theorem decodeWire_frame (c : CrcParams) {p : List Byte} (rest : List Byte) (hp : p.length ≤ 1024) :
    decodeWire c (frame c p false ++ rest) = .ok (wireInstr p, rest) := by
  have hlen : (advertisedLen p false).toNat = p.length + 2 := toNat_advertisedLen false hp
  have hbody := decodeBody_trailer c p rest
  rw [← hlen] at hbody
  simpa [decodeWire, frame, header, lengthOk_advertisedLen hp] using hbody

/-- The row of a payload that has no row of its own. -/
theorem wireInstr_of_framePayload {p : List Byte} (h : framePayload p) : wireInstr p = .frame p := if_neg h.2

/-- The row of a payload of at most 1024 bytes can be written, arrives on the wire, and its bytes are the payload's frame. -/
theorem wireInstr_encodes (c : CrcParams) {p : List Byte} (hp : p.length ≤ 1024) :
    (wireInstr p).wf = true ∧ (wireInstr p).port = .wire ∧ encode c (wireInstr p) = frame c p false := by
  by_cases h : p = errPayload
  · subst h; exact ⟨rfl, rfl, rfl⟩
  · have hf : framePayload p := ⟨hp, h⟩
    rw [wireInstr_of_framePayload hf]
    exact ⟨decide_eq_true hf, rfl, rfl⟩

/-! ### Both ports -/

/-- Settles O46: port by port, the decoder retraces the layout that the encoder writes. -/
theorem decodeOfEncodeIsTheInstruction : Obligations.DecodeOfEncodeIsTheInstruction := by
  intro c i rest hw
  cases hp : i.port with
  | command => exact decodeCommand_encode c rest hp hw
  | wire =>
    cases i with
    | frame p =>
      have hf : framePayload p := of_decide_eq_true hw
      have h := decodeWire_frame c rest hf.1
      rwa [wireInstr_of_framePayload hf] at h
    | errframe => exact decodeWire_frame c (p := errPayload) rest (by decide)
    | _ => cases hp

/-- Settles O47: each decoder accepts only the layout that the encoder writes. -/
theorem decodedBytesAreTheEncoding : Obligations.DecodedBytesAreTheEncoding := by
  intro c port bytes rest i h
  cases port with
  | command => exact decodeCommand_eq_ok c h
  | wire =>
    obtain ⟨p, rfl, hp, rfl⟩ := decodeWire_eq_ok h
    obtain ⟨hw, hport, henc⟩ := wireInstr_encodes c hp
    exact ⟨hw, hport, by rw [henc]⟩

/-! ### Words of the spec and reserved words -/

/-- Settles O48: the decoders evaluated on the spec's words. -/
theorem wordsOfTheSpecDecode : Obligations.WordsOfTheSpecDecode :=
  ⟨rfl, rfl, rfl, rfl, rfl, rfl, rfl, rfl, rfl, by decide +kernel, rfl⟩

/-- The reserved words by their bits (R84): `0x07`, or a bit of `cmd[7:3]` set. -/
theorem isReserved_iff (cmd : Byte) : isReserved cmd ↔ cmd = 0x07 ∨ cmd.extractLsb' 3 5 ≠ 0 := by
  have hlt := cmd.isLt
  have hhigh : cmd.extractLsb' 3 5 = 0 ↔ cmd.toNat / 8 = 0 := by
    rw [← BitVec.toNat_inj, BitVec.extractLsb'_toNat, Nat.shiftRight_eq_div_pow]
    change cmd.toNat / 8 % 32 = 0 ↔ cmd.toNat / 8 = 0
    omega
  have hseven : cmd = 0x07 ↔ cmd.toNat = 7 := by rw [← BitVec.toNat_inj]; rfl
  rw [Ne, hhigh, hseven, isReserved]
  omega

/-- Settles O49: the last clause is that a reserved word read was its own encoding (O47). -/
theorem reservedWordsDecodeToThemselves : Obligations.ReservedWordsDecodeToThemselves := by
  refine ⟨isReserved_iff, fun cmd rest h => decodeCommand_of_isReserved rest h, ?_⟩
  rintro cmd rest more i hcmd hdec w rfl
  obtain ⟨hw, -, hbytes⟩ := decodeCommand_eq_ok Config.crcDefault hdec
  obtain rfl : cmd = w := (List.cons.inj hbytes).1
  exact hcmd (of_decide_eq_true hw)

/-! ### The redundancy test of a header (R73, R133) -/

/-- A byte is the complement of another when and only when the two add up to `0xFF`. -/
theorem xor_eq_ff_iff (a b : Byte) : a ^^^ b = 0xFF ↔ a = cpl b := by
  have h : cpl b ^^^ b = 0xFF := by
    rw [cpl, ← BitVec.allOnes_xor, BitVec.xor_assoc, BitVec.xor_self]
    rfl
  rw [← h, BitVec.xor_left_inj]

theorem le16_xor (a b a' b' : Byte) : le16 a b ^^^ le16 a' b' = le16 (a ^^^ a') (b ^^^ b') := BitVec.xor_append

theorem le16_inj {a b a' b' : Byte} : le16 a b = le16 a' b' ↔ a = a' ∧ b = b' := by
  refine ⟨fun h => ⟨?_, ?_⟩, fun ⟨ha, hb⟩ => by rw [ha, hb]⟩
  · simpa using congrArg lo h
  · simpa using congrArg hi h

/-- Settles O7: the 16-bit sum is `0xFFFF` when both byte sums are `0xFF`, and a byte has one complement. -/
theorem redundancyTestIsXorTest : Obligations.RedundancyTestIsXorTest := by
  refine ⟨fun h0 h1 h2 h3 => ?_, fun h0 h1 => ⟨cpl h0, cpl h1, ?_, fun k2 k3 hk => ?_⟩⟩
  · calc redundancyOk h0 h1 h2 h3 = true
      _ ↔ h0 = cpl h2 ∧ h1 = cpl h3 := redundancyOk_iff h0 h1 h2 h3
      _ ↔ h0 ^^^ h2 = 0xFF ∧ h1 ^^^ h3 = 0xFF := by rw [xor_eq_ff_iff, xor_eq_ff_iff]
      _ ↔ le16 (h0 ^^^ h2) (h1 ^^^ h3) = le16 0xFF 0xFF := le16_inj.symm
      _ ↔ le16 h0 h1 ^^^ le16 h2 h3 = 0xFFFF := by rw [le16_xor]; rfl
  · simp [redundancyOk_iff]
  · obtain ⟨h0_eq, h1_eq⟩ := (redundancyOk_iff h0 h1 k2 k3).1 hk
    simp [h0_eq, h1_eq]

end Sys2Proof
end

section
/-! PROOFS. Results (30_encoding.md R85): the bits of a result byte, the one result of an operation on the command port and what its
`ASYM` bit reports; and the bytes of the error frame (R79). -/

namespace Sys2Proof.Machine

/-! ### The error frame and the result byte -/

/-- Settles O6: header and payload are literal bytes; under the default parameters the checksum is evaluated. -/
theorem errorFrameLayout : Obligations.ErrorFrameLayout :=
  ⟨fun _ => rfl, fun _ => rfl, rfl⟩

/-- The three parts of a result byte. -/
theorem OpResult.byte_parts (r : OpResult) :
    r.byte.extractLsb' 0 3 = r.code.code ∧ r.byte.extractLsb' 3 4 = 0 ∧ r.byte.getLsbD 7 = r.asym := by
  refine ⟨BitVec.extractLsb'_append_eq_right, ?_, ?_⟩
  · rw [OpResult.byte, BitVec.extractLsb'_append_eq_of_le (Nat.le_refl 3)]
    exact BitVec.extractLsb'_append_eq_right
  · rw [OpResult.byte, BitVec.getLsbD_append, BitVec.getLsbD_append]
    simp

/-- Settles O35: the parts of the byte for every result, and each code evaluated. -/
theorem resultByteLayout : Obligations.ResultByteLayout :=
  ⟨OpResult.byte_parts, rfl, rfl, rfl, rfl, rfl, rfl, rfl, rfl⟩

/-! ### The one result of an operation, and its ASYM bit -/

/-- The codes of the receive errors, after which RXB has sent an error frame (R206). -/
abbrev ResultCode.IsReceiveError (k : ResultCode) : Prop :=
  k = .headerRedundancyMismatch ∨ k = .lengthOutOfRange ∨ k = .checksumMismatch

theorem ok_not_receiveError : ¬ ResultCode.ok.IsReceiveError := by decide

/-- The instruction `i`, issued in `s`, answers with `q` as R85 says: it leaves the host's results to the end of the operation,
and `ASYM` is set when and only when `OS` was set and `i` encoded a frame. -/
structure Reports (i : Instr) (s : State) (q : State × OpResult) : Prop where
  results : q.1.results = s.results
  asym : q.2.asym = true ↔ s.os = true ∧ ((∃ p, i = .enc p ∧ p.length ≤ 1024) ∨ q.2.code.IsReceiveError)

/-- An operation that encodes no frame reports no `ASYM`. -/
theorem Reports.of_no_frame {i : Instr} {s : State} {q : State × OpResult} (hres : q.1.results = s.results)
    (hasym : q.2.asym = false) (hi : ∀ p, i = .enc p → ¬ p.length ≤ 1024) (hk : ¬ q.2.code.IsReceiveError) : Reports i s q := by
  refine ⟨hres, fun h => absurd (hasym.symm.trans h) Bool.false_ne_true, ?_⟩
  rintro ⟨-, ⟨p, hp, hle⟩ | h⟩
  · exact absurd hle (hi p hp)
  · exact absurd h hk

/-- A rejected frame reports the flag that its error frame consumed (R108). -/
theorem Reports.rejectFrame {k : ResultCode} {i : Instr} {s t : State} (hres : t.results = s.results) (hos : t.os = s.os)
    (hk : k.IsReceiveError) : Reports i s (rejectFrame k t) := by
  rw [rejectFrame_eq, hos]
  exact ⟨hres, fun h => ⟨h, .inr hk⟩, And.left⟩

theorem Reports.encOp (p : List Byte) (s : State) : Reports (.enc p) s (encOp p s) := by
  by_cases hp : p.length ≤ 1024
  · rw [encOp_of_le hp]
    exact ⟨rfl, fun h => ⟨h, .inl ⟨p, rfl, hp⟩⟩, And.left⟩
  · have overflow : ¬ ResultCode.bufferOverflow.IsReceiveError := by decide
    rw [encOp_of_gt (by omega)]
    exact .of_no_frame rfl rfl (fun _ h => Instr.enc.inj h ▸ hp) overflow

theorem Reports.handlerOp {i : Instr} {s : State} {q : State × OpResult} (h : handlerOp i s = .next q) : Reports i s q := by
  cases i with
  | enc p => cases h; exact .encOp p s
  | rpt =>
    obtain ⟨hq, hcases⟩ := rptOp_eq_next h
    have hres : q.1.results = s.results := by
      rcases hcases with ⟨-, e⟩ | ⟨-, -, f, -, e⟩ <;> rw [e]
      rfl
    exact .of_no_frame hres (by rw [hq]; rfl) nofun (by rw [hq]; exact ok_not_receiveError)
  | raw _ => cases h; exact .of_no_frame rfl rfl nofun ok_not_receiveError
  | crc _ => cases h; exact .of_no_frame rfl rfl nofun ok_not_receiveError
  | setos => cases h; exact .of_no_frame rfl rfl nofun ok_not_receiveError
  | reserved _ =>
    have illegal : ¬ ResultCode.illegalCommand.IsReceiveError := by decide
    cases h
    exact .of_no_frame rfl rfl nofun illegal
  | rst => cases h
  | rxb _ => cases h
  | frame _ => cases h
  | errframe => cases h

theorem Reports.rxbRow {b : Byte} {s : State} {q : State × OpResult} (h : RxbRow b s q) : Reports (.rxb b) s q := by
  have ok {t : State} (hres : t.results = s.results) : Reports (.rxb b) s (t, OpResult.plain .ok) :=
    .of_no_frame hres rfl nofun ok_not_receiveError
  cases h with
  | discarded => exact ok rfl
  | started => exact ok rfl
  | headerByte => exact ok rfl
  | headerLast _ _ _ h0 h1 h2 h3 =>
    rcases validateHeader_cases h0 h1 h2 h3 (s.pushRx b) with ⟨-, -, e⟩ | ⟨-, -, e⟩ | ⟨-, e⟩ <;> rw [e]
    · exact ok rfl
    · exact .rejectFrame rfl rfl (by decide)
    · exact .rejectFrame rfl rfl (by decide)
  | bodyByte => exact ok rfl
  | delivered _ _ _ _ _ _ _ _ _ _ _ u hd =>
    have delivered : ¬ ResultCode.delivered.IsReceiveError := by decide
    obtain ⟨_, _, _, _, _, _, rfl⟩ := deliver_step hd
    exact .of_no_frame rfl rfl nofun delivered
  | mismatched => exact .rejectFrame rfl rfl (by decide)

/-- A host operation on the command port ends with the result that it reports. -/
theorem exec_reports {i : Instr} {s t : State} (hport : i.port = .command) (h : exec i s = .next t) :
    ∃ q, t = q.1.record q.2 ∧ Reports i s q := by
  cases he : encoderSide i with
  | true =>
    rw [exec_of_encoderSide he] at h
    obtain ⟨q, hq, ht⟩ := finishOp_eq_next.1 h
    exact ⟨q, ht, .handlerOp hq⟩
  | false =>
    rcases cases_of_not_encoderSide he with rfl | ⟨b, rfl⟩ | ⟨p, rfl⟩ | rfl
    · cases h
      exact ⟨(s.initialise, OpResult.plain .ok), rfl, .of_no_frame rfl rfl nofun ok_not_receiveError⟩
    · obtain ⟨q, hq, ht⟩ := finishOp_eq_next.1 h
      exact ⟨q, ht, .rxbRow (rxbOp_rows hq)⟩
    · cases hport
    · cases hport

/-- Settles O32: what `Reports` says, with the result recorded at the end of the operation. -/
theorem asymReportsOneShotFrames : Obligations.AsymReportsOneShotFrames := by
  intro i s t hport h
  obtain ⟨q, rfl, hres, hasym⟩ := exec_reports hport h
  exact ⟨q.2, by rw [State.record_results, hres], hasym⟩

end Sys2Proof.Machine
end

section
/-! PROOFS. A whole frame on the wire-in stream, received from `AwaitingStart` (40_encoder.md R111, 41_decoder.md R131 to R143): the bytes
that complete nothing are stored, the header is judged on its fourth byte, and the last byte has the body judged. -/

namespace Sys2Proof.Machine

/-! ### Feeding one byte -/

/-- The RXB of the byte at the front, where it goes on. -/
theorem feedBytes_cons_of_next {b : Byte} {s : State} {q : State × OpResult} (bs : List Byte) (h : rxbOp b s = .next q) :
    feedBytes (b :: bs) s = feedBytes bs (q.1.record q.2) := by
  simp [feedBytes_cons, execRxb, finishOp, h]

theorem feedBytes_singleton (b : Byte) (s : State) : feedBytes [b] s = finishOp (rxbOp b s) := (exec_rxb b s).symm

/-! ### Bytes stored, and their results -/

/-- The stores of several bytes of a frame: `pushRx` of each of them, as one update. -/
def State.pushAll (bs : List Byte) (s : State) : State :=
  { s with
    rxbuf := s.rxbuf.writeBytes s.cur.toNat bs
    cur := s.cur + BitVec.ofNat 11 bs.length
    frameBytes := s.frameBytes ++ bs }

/-- The results of `n` bytes that completed nothing, recorded (R142). -/
def State.quiet (n : Nat) (s : State) : State := { s with results := s.results ++ quietResults n }

section Stores
variable {s : State} {bs : List Byte}

@[simp] theorem State.pushAll_nil : s.pushAll [] = s := by simp [State.pushAll]

theorem State.pushAll_cons (b : Byte) (h : s.cur.toNat < 2047) : s.pushAll (b :: bs) = (s.pushRx b).pushAll bs := by
  have hcur : s.cur + BitVec.ofNat 11 (bs.length + 1) = s.cur + 1#11 + BitVec.ofNat 11 bs.length := by
    rw [Nat.add_comm, BitVec.ofNat_add, BitVec.add_assoc]
  simp [State.pushAll, State.pushRx, Memory.writeBytes_cons, hcur, toNat_succ h]

theorem State.toNat_cur_pushAll (h : s.cur.toNat + bs.length < 2048) : (s.pushAll bs).cur.toNat = s.cur.toNat + bs.length := by
  rw [State.pushAll, BitVec.toNat_add, toNat_count (by omega)]
  omega

/-- One byte more behind the bytes stored. -/
theorem State.pushRx_pushAll (b : Byte) (h : s.cur.toNat + bs.length < 2048) :
    (s.pushAll bs).pushRx b = s.pushAll (bs ++ [b]) := by
  rw [State.pushRx, State.toNat_cur_pushAll h]
  simp [State.pushAll, Memory.writeBytes_append, Memory.writeBytes_cons, BitVec.ofNat_add, BitVec.add_assoc]

@[simp] theorem State.quiet_zero : s.quiet 0 = s := by simp [State.quiet, quietResults]

theorem State.quiet_quiet (m n : Nat) : (s.quiet m).quiet n = s.quiet (m + n) := by
  simp [State.quiet, quietResults, List.replicate_append_replicate]

end Stores

/-! ### Bytes that complete neither a header nor a frame (R132, R137) -/

/-- The next `n` bytes belong to the frame in progress and complete neither its header nor the frame. -/
def AwaitsMore (n : Nat) (s : State) : Prop :=
  (s.st = .awaitingLength ∧ s.cur.toNat + n ≤ 3) ∨
  (s.st = .receiving ∧ s.exp.toNat ≤ 1026 ∧ s.cur.toNat + n < s.exp.toNat)

namespace AwaitsMore
variable {n : Nat} {s : State}

theorem cur_add_lt (h : AwaitsMore n s) : s.cur.toNat + n < 1026 := by
  rcases h with ⟨-, hc⟩ | ⟨-, he, hc⟩ <;> omega

theorem rxbOp (b : Byte) (h : AwaitsMore (n + 1) s) : rxbOp b s = .next (s.pushRx b, OpResult.plain .ok) := by
  rcases h with ⟨hst, hc⟩ | ⟨hst, he, hc⟩
  · exact rxbOp_headerByte b hst (by omega)
  · exact rxbOp_bodyByte b hst he (by omega)

theorem pushRx (b : Byte) (h : AwaitsMore (n + 1) s) : AwaitsMore n ((s.pushRx b).quiet 1) := by
  have hcur : ((s.pushRx b).quiet 1).cur.toNat = s.cur.toNat + 1 := toNat_succ (by have := h.cur_add_lt; omega)
  rcases h with ⟨hst, hc⟩ | ⟨hst, he, hc⟩
  · exact .inl ⟨hst, by omega⟩
  · exact .inr ⟨hst, he, by rw [hcur]; exact (Nat.add_right_comm ..).trans_lt hc⟩

/-- Bytes that complete nothing are stored, one after another. -/
theorem feedBytes {bs : List Byte} (h : AwaitsMore bs.length s) :
    feedBytes bs s = .next ((s.pushAll bs).quiet bs.length) := by
  induction bs generalizing s with
  | nil => simp
  | cons b bs ih =>
    calc Machine.feedBytes (b :: bs) s
      _ = Machine.feedBytes bs ((s.pushRx b).quiet 1) := feedBytes_cons_of_next bs (h.rxbOp b)
      _ = .next ((((s.pushRx b).quiet 1).pushAll bs).quiet bs.length) := ih (h.pushRx b)
      _ = .next ((((s.pushRx b).pushAll bs).quiet 1).quiet bs.length) := rfl
      _ = .next ((s.pushAll (b :: bs)).quiet (bs.length + 1)) := by
        rw [State.quiet_quiet, Nat.add_comm 1, State.pushAll_cons b (by have := h.cur_add_lt; omega)]

end AwaitsMore

/-! ### The header (R131 to R135) -/

/-- STX and four bytes behind it: the length-field validator judges them. -/
theorem feedBytes_header (h0 h1 h2 h3 : Byte) {s : State} (hst : s.st = .awaitingStart) :
    feedBytes [Config.stx, h0, h1, h2, h3] s =
      .next (finish (validateHeader h0 h1 h2 h3 (((s.startFrame Config.stx).pushAll [h0, h1, h2, h3]).quiet 4))) := by
  have hstart : rxbOp Config.stx s = .next (s.startFrame Config.stx, OpResult.plain .ok) := by
    rw [rxbOp_of_scanning _ hst, rxbStart, if_pos rfl]
  have hmore : feedBytes [h0, h1, h2] ((s.startFrame Config.stx).quiet 1) =
      .next (((s.startFrame Config.stx).pushAll [h0, h1, h2]).quiet 4) := by
    rw [← State.quiet_quiet 1 3]
    exact AwaitsMore.feedBytes (.inl ⟨rfl, (Nat.le_refl 3 : 0 + 3 ≤ 3)⟩)
  have hlast : rxbOp h3 (((s.startFrame Config.stx).pushAll [h0, h1, h2]).quiet 4) = _ :=
    rxbOp_headerLast h3 rfl rfl (Memory.readBytes_writeBytes s.rxbuf 0 [h0, h1, h2])
  calc feedBytes [Config.stx, h0, h1, h2, h3] s
    _ = feedBytes ([h0, h1, h2] ++ [h3]) ((s.startFrame Config.stx).quiet 1) := feedBytes_cons_of_next _ hstart
    _ = finishOp (rxbOp h3 (((s.startFrame Config.stx).pushAll [h0, h1, h2]).quiet 4)) := by
      rw [feedBytes_append, hmore, andThen_next, feedBytes_singleton]
    _ = _ := by rw [hlast]; rfl

/-- The state after a header of the length `n` that came in from `AwaitingStart` and was accepted (R135). -/
def headerAccepted (n : Word) (s : State) : State :=
  (acceptHeader n ((s.startFrame Config.stx).pushAll (header n))).quiet 5

theorem feedBytes_headerAccepted {n : Word} {s : State} (hst : s.st = .awaitingStart) (hn : lengthOk n = true) :
    feedBytes (Config.stx :: header n) s = .next (headerAccepted n s) := by
  have hjudge (t : State) : validateHeader (lo n) (hi n) (cpl (lo n)) (cpl (hi n)) t = (acceptHeader n t, OpResult.plain .ok) := by
    simp [validateHeader, hn]
  rw [header, feedBytes_header _ _ _ _ hst, hjudge, headerAccepted, ← State.quiet_quiet 4 1]
  rfl

/-! ### The body and the trailer (R137 to R139) -/

/-- A body and two bytes behind an accepted header: on the last byte the body is judged, in a state whose `ST` is `AwaitingStart`. -/
theorem feedBytes_body {p : List Byte} {s : State} (c0 c1 : Byte) (hst : s.st = .receiving) (hc : s.cur = 0#11)
    (he : s.exp.toNat = p.length + 2) (hp : p.length ≤ 1024) :
    feedBytes (p ++ [c0, c1]) s =
      finishOp (judgeBody p (le16 c0 c1) ((s.pushAll (p ++ [c0, c1])).endFrame.quiet (p.length + 1))) := by
  have hsplit : p ++ [c0, c1] = (p ++ [c0]) ++ [c1] := by simp
  have hlen : (p ++ [c0]).length = p.length + 1 := List.length_append
  have hfits : s.cur.toNat + (p ++ [c0]).length = p.length + 1 := by rw [hlen, hc]; exact Nat.zero_add _
  have hmore : feedBytes (p ++ [c0]) s = .next ((s.pushAll (p ++ [c0])).quiet (p.length + 1)) := by
    rw [← hlen]
    exact AwaitsMore.feedBytes (.inr ⟨hst, by omega, by omega⟩)
  have hcur : (s.pushAll (p ++ [c0])).cur.toNat = p.length + 1 := by rw [State.toNat_cur_pushAll (by omega), hfits]
  have hread : (s.pushAll (p ++ [c0])).rxbuf.readBytes 0 (s.pushAll (p ++ [c0])).cur.toNat = some (p ++ [c0]) := by
    rw [hcur, ← hlen, State.pushAll, hc]
    exact Memory.readBytes_writeBytes s.rxbuf 0 (p ++ [c0])
  have hlast : rxbOp c1 ((s.pushAll (p ++ [c0])).quiet (p.length + 1)) =
      judgeBody p (le16 c0 c1) (((s.pushAll (p ++ [c0])).pushRx c1).endFrame.quiet (p.length + 1)) :=
    rxbOp_bodyLast hst (he.trans_le (by omega)) ((congrArg (· + 1) hcur).trans he.symm) hread hsplit.symm
  rw [hsplit, feedBytes_append, hmore, andThen_next, feedBytes_singleton, hlast, State.pushRx_pushAll c1 (by omega)]

/-! ### The whole frame -/

/-- A header, a body and any two bytes as its trailer, received from `AwaitingStart`: the body is judged on the last byte. -/
theorem feedBytes_frame {p : List Byte} {s : State} (c0 c1 : Byte) (hst : s.st = .awaitingStart) (hp : p.length ≤ 1024) :
    feedBytes (Config.stx :: header (advertisedLen p false) ++ p ++ [c0, c1]) s =
      finishOp (judgeBody p (le16 c0 c1)
        (((headerAccepted (advertisedLen p false) s).pushAll (p ++ [c0, c1])).endFrame.quiet (p.length + 1))) := by
  have hexp : (headerAccepted (advertisedLen p false) s).exp.toNat = p.length + 2 := by
    have : ((advertisedLen p false).setWidth 11).toNat = (p.length + 2) % 2048 := by
      rw [BitVec.toNat_setWidth, toNat_advertisedLen false hp]
      rfl
    exact this.trans (Nat.mod_eq_of_lt (by omega))
  rw [List.append_assoc, feedBytes_append, feedBytes_headerAccepted hst (lengthOk_advertisedLen hp), andThen_next,
    feedBytes_body c0 c1 rfl rfl hexp hp]

/-- Behind the header of a payload, its body and its checksum leave the state in which R138 delivers. -/
theorem pushAll_headerAccepted (p : List Byte) (s : State) :
    ((headerAccepted (advertisedLen p false) s).pushAll (p ++ trailer s.crcParams p)).endFrame.quiet (p.length + 1) =
      received p s := by
  have hexp : (advertisedLen p false).setWidth 11 = BitVec.ofNat 11 (p.length + 2) := by
    simp [advertisedLen]
  have hresults : quietResults 5 ++ quietResults (p.length + 1) = quietResults (p.length + 6) := by
    rw [quietResults, quietResults, List.replicate_append_replicate, Nat.add_comm 5]
    rfl
  simp [headerAccepted, acceptHeader, State.startFrame, State.setExp, State.setCur, State.setSt, State.pushAll, State.endFrame,
    State.quiet, received, hexp, hresults]

theorem judgeBody_of_match {p : List Byte} {w : Word} {s : State} (h : crc16 s.crcParams p = w) :
    judgeBody p w s = andThen (deliver p s) fun u => .next (u, OpResult.plain .delivered) := if_pos h

/-- A frame received from `AwaitingStart` is delivered on its last byte (R111). -/
theorem exec_frame_of_scanning {p : List Byte} {s : State} (hst : s.st = .awaitingStart) (hp : p.length ≤ 1024) :
    exec (.frame p) s =
      andThen (deliver p (received p s)) fun u => .next { u with results := u.results ++ [OpResult.plain .delivered] } := by
  have hmatch : crc16 (received p s).crcParams p = le16 (lo (crc16 s.crcParams p)) (hi (crc16 s.crcParams p)) :=
    (le16_lo_hi _).symm
  calc exec (.frame p) s
    _ = finishOp (judgeBody p (le16 (lo (crc16 s.crcParams p)) (hi (crc16 s.crcParams p))) (received p s)) := by
      rw [← pushAll_headerAccepted]
      exact feedBytes_frame _ _ hst hp
    _ = _ := by
      rw [judgeBody_of_match hmatch, finishOp, andThen_assoc]
      rfl

/-- Settles O36: the frame is delivered on its last byte, here also to a handler with no answer left. -/
theorem frameIsDelivered : Obligations.FrameIsDelivered := by
  intro p s hst hp
  refine ⟨rfl, exec_frame_of_scanning hst hp, fun hh => ?_⟩
  have hdeliver : deliver p (received p s) = .next ((received p s).logDelivery p) := by
    rw [deliver, show (received p s).handler = [] from hh]
  rw [exec_frame_of_scanning hst hp, hdeliver]
  rfl

end Sys2Proof.Machine
end

section
/-! PROOFS. The encoder family (40_encoder.md): the bytes of a frame, and the next state of ENC, RPT and RAW. -/

namespace Sys2Proof.Machine

/-! ### The decoder beside the encoder (R32, R254) -/

theorem SameDecoder.trans {s t u : State} (h : SameDecoder s t) (k : SameDecoder t u) : SameDecoder s u :=
  ⟨k.st.trans h.st, k.cur.trans h.cur, k.exp.trans h.exp, k.rxbuf.trans h.rxbuf, k.frameBytes.trans h.frameBytes⟩

/-- An operation of the encoder side leaves the decoder's elements. -/
theorem sameDecoder_of_encoderSide {i : Instr} {s t : State} (hi : encoderSide i = true) (h : exec i s = .next t) :
    SameDecoder s t := by
  rw [exec_of_encoderSide hi] at h
  obtain ⟨q, hq, rfl⟩ := finishOp_eq_next.1 h
  obtain ⟨m, n, o, x, l, hx⟩ := (handlerOp_step hq).rest
  rw [hx]
  exact ⟨rfl, rfl, rfl, rfl, rfl⟩

/-! ### The bytes of a frame (R101, R109) -/

/-- A frame, byte by byte up to its payload. -/
theorem frame_eq_cons (c : CrcParams) (p : List Byte) (x : Bool) :
    frame c p x =
      Config.stx :: lo (advertisedLen p x) :: hi (advertisedLen p x) ::
        cpl (lo (advertisedLen p x)) :: cpl (hi (advertisedLen p x)) :: (p ++ trailer c p) := rfl

theorem frame_payload (c : CrcParams) (p : List Byte) (x : Bool) : ((frame c p x).drop 5).take p.length = p :=
  List.take_left

/-- Settles O5: the redundancy bytes are the complements of LEN and the trailer is the checksum, each read at its index. -/
theorem framePropertiesOfTheEncoder : Obligations.FramePropertiesOfTheEncoder := by
  intro c p x hp
  have hlen := toNat_advertisedLen x hp
  rw [frame_payload, length_frame]
  refine ⟨⟨cpl (lo (advertisedLen p x)), cpl (hi (advertisedLen p x)), ?_⟩,
    ⟨lo (crc16 c p), hi (crc16 c p), ?_⟩, rfl, rfl, rfl⟩
  · rw [cpl_cpl, cpl_cpl, le16_lo_hi, hlen]
    exact ⟨rfl, rfl, rfl, rfl, rfl, by omega⟩
  · simp [frame_eq_cons, trailer]

/-! ### ENC (R100 to R105) -/

theorem storesFromZero_writeBytes (m : Memory) (bs : List Byte) : StoresFromZero m (m.writeBytes 0 bs) bs :=
  ⟨m.readBytes_writeBytes 0 bs, fun a ha => m.readByte_writeBytes_other 0 a bs (.inr (by omega))⟩

/-- ENC of a legal payload sends the frame. -/
theorem exec_enc_of_le {p : List Byte} {s : State} (h : p.length ≤ 1024) :
    exec (.enc p) s = .next ((sendFrame (frame s.crcParams p s.os) s).record (OpResult.mkFlag .ok s.os)) :=
  congrArg (fun q => Host.Outcome.next (finish q)) (encOp_of_le h)

theorem exec_enc_of_gt {p : List Byte} {s : State} (h : 1024 < p.length) :
    exec (.enc p) s = .next (s.record (OpResult.plain .bufferOverflow)) :=
  congrArg (fun q => Host.Outcome.next (finish q)) (encOp_of_gt h)

/-- Settles O8: the cache is written from index 0 on, and its length fits `TXLEN`. -/
theorem encSendsAndCachesFrame : Obligations.EncSendsAndCachesFrame := by
  intro p s hp
  refine ⟨_, ?_, storesFromZero_writeBytes s.txbuf (frame s.crcParams p s.os), toNat_count (by omega)⟩
  rw [exec_enc_of_le hp, ← length_frame s.crcParams p s.os]
  rfl

/-- Settles O9: the refusal leaves the state as it is but for its result; the longest payload is within the bound, and its LEN does
not wrap. -/
theorem encRefusesLongPayload : Obligations.EncRefusesLongPayload := by
  refine ⟨fun p s hp => exec_enc_of_gt hp, fun p s hp hos => ⟨_, exec_enc_of_le hp.le, ?_, ?_⟩⟩
  · rw [hos]
    rfl
  · rw [toNat_advertisedLen true hp.le, hp]
    rfl

/-! ### RPT (R106) -/

theorem exec_rpt_of_empty {s : State} (h : s.txlen = 0#11) : exec .rpt s = .next (s.record (OpResult.plain .ok)) :=
  congrArg finishOp (rptOp_of_empty h)

theorem exec_rpt_of_cached {s : State} {f : List Byte} (h0 : s.txlen ≠ 0#11) (hl : s.txlen.toNat ≤ 1031)
    (h : s.txbuf.readBytes 0 s.txlen.toNat = some f) :
    exec .rpt s = .next ((s.txWrite f).record (OpResult.plain .ok)) :=
  congrArg finishOp (rptOp_of_cached h0 hl h)

/-- Settles O10: under the invariants a cache that is not empty reads as the last frame sent. -/
theorem rptResendsCache : Obligations.RptResendsCache := by
  intro s hinv
  refine ⟨exec_rpt_of_empty, fun h0 => ?_⟩
  rcases hinv.cache with ⟨hempty, -⟩ | ⟨p, x, hp, -, hlen, hread, -⟩
  · exact absurd hempty h0
  · simp only [Config.maxPayload, Config.frameOverhead] at hp hlen
    exact ⟨_, hread, exec_rpt_of_cached h0 (by omega) hread⟩

/-- What RPT does where a frame is cached leaves the encoder's elements. -/
theorem sameEncoder_txWrite_record (f : List Byte) (r : OpResult) (s : State) : SameEncoder s ((s.txWrite f).record r) :=
  ⟨rfl, rfl, rfl⟩

/-- RPT behind the sending of a frame sends it once more. -/
theorem exec_rpt_of_sendFrame {f : List Byte} (s : State) (r : OpResult) (hpos : 0 < f.length) (hf : f.length ≤ 1031) :
    exec .rpt ((sendFrame f s).record r) =
      .next ((((sendFrame f s).record r).txWrite f).record (OpResult.plain .ok)) := by
  have hlen : ((sendFrame f s).record r).txlen.toNat = f.length := toNat_count (by omega)
  have hread : ((sendFrame f s).record r).txbuf.readBytes 0 f.length = some f := s.txbuf.readBytes_writeBytes 0 f
  refine exec_rpt_of_cached (fun h0 => ?_) (hlen.trans_le hf) (hlen ▸ hread)
  rw [h0] at hlen
  exact absurd hlen hpos.ne

/-- Settles O11: RPT reads back the frame that ENC has stored, whichever LEN it advertises. -/
theorem rptRepeatsTheFrameAsSent : Obligations.RptRepeatsTheFrameAsSent := by
  intro p s hp
  have hlen := length_frame s.crcParams p s.os
  have henc := exec_enc_of_le (s := s) hp
  have hrpt := exec_rpt_of_sendFrame s (OpResult.mkFlag .ok s.os) (f := frame s.crcParams p s.os) (by omega) (by omega)
  refine ⟨_, _, henc, hrpt, ?_, ?_, rfl, sameEncoder_txWrite_record ..,
    (sameDecoder_of_encoderSide rfl henc).trans (sameDecoder_of_encoderSide rfl hrpt)⟩
  · simp [sendFrame]
  · simp [sendFrame, OpResult.plain]

/-! ### RAW (R107) -/

/-- Settles O12: RAW is one write to the sink and its result. -/
theorem rawBypassesFraming : Obligations.RawBypassesFraming := fun _ _ => rfl

end Sys2Proof.Machine
end

section
/-! PROOFS. The frame in progress (10_state.md R34 items 2 and 3): what one more byte of it can do, from which R151 follows, that a
payload is delivered when and only when its frame has come in, and that RXB completes (41_decoder.md R130, R142). -/

namespace Sys2Proof.Machine

/-! ### The bytes taken since the STX -/

/-- RXBUF up to the cursor holds `bs` (R56). -/
structure BufferHolds (bs : List Byte) (s : State) : Prop where
  cur : s.cur.toNat = bs.length
  read : s.rxbuf.readBytes 0 bs.length = some bs

theorem BufferHolds.pushRx {bs : List Byte} {s : State} (b : Byte) (hlt : bs.length < 2047) (h : BufferHolds bs s) :
    BufferHolds (bs ++ [b]) (s.pushRx b) := by
  refine ⟨?_, ?_⟩
  · rw [State.pushRx_cur, toNat_succ (by rwa [h.cur]), h.cur, List.length_append, List.length_singleton]
  · rw [State.pushRx_rxbuf, h.cur, List.length_append, List.length_singleton]
    exact Memory.readBytes_writeByte_snoc b h.read

/-- A frame is in progress, and `taken` are the bytes taken since the decoder was last in `AwaitingStart`: items 2 and 3 of R34, of
any bytes. -/
inductive Collected (taken : List Byte) (s : State) : Prop where
  | header (h : List Byte) (hst : s.st = .awaitingLength) (htaken : taken = Config.stx :: h) (hlen : h.length ≤ 3)
      (hbuf : BufferHolds h s)
  | body (n : Word) (body : List Byte) (hst : s.st = .receiving) (hn : lengthOk n = true) (hexp : s.exp.toNat = n.toNat)
      (htaken : taken = Config.stx :: header n ++ body) (hlt : body.length < n.toNat) (hbuf : BufferHolds body s)

/-- The invariants say of the record `frameBytes` that it is the frame in progress. -/
theorem Inv.collected {s : State} (h : Inv s) (hst : s.st ≠ .awaitingStart) : Collected s.frameBytes s := by
  cases e : s.st with
  | awaitingStart => exact absurd e hst
  | awaitingLength =>
    obtain ⟨hd, htaken, hlen, hcur, hread⟩ := h.headerPart e
    exact .header hd e htaken hlen ⟨hcur, hread⟩
  | receiving =>
    obtain ⟨n, body, hn, hexp, htaken, hcur, hlt, hread⟩ := h.bodyPart e
    exact .body n body e hn hexp htaken hlt ⟨hcur, hread⟩

theorem Collected.record {taken : List Byte} {s : State} (r : OpResult) (h : Collected taken s) : Collected taken (s.record r) := by
  cases h with
  | header h hst htaken hlen hbuf => exact .header h hst htaken hlen ⟨hbuf.cur, hbuf.read⟩
  | body n body hst hn hexp htaken hlt hbuf => exact .body n body hst hn hexp htaken hlt ⟨hbuf.cur, hbuf.read⟩

/-! ### One more byte of the frame -/

/-- What RXB of `b` can answer when the frame in progress has `taken` so far: it goes on, it is rejected, or, being whole, it is
delivered. -/
inductive FrameAnswer (taken : List Byte) (b : Byte) (s : State) : Answer → Prop where
  | more (t : State) (ht : Collected (taken ++ [b]) t) (hdlv : t.dlv = s.dlv) (hres : t.results = s.results) :
      FrameAnswer taken b s (.next (t, OpResult.plain .ok))
  | rejected (kind : ResultCode) (hkind : kind.IsReceiveError) :
      FrameAnswer taken b s (.next (rejectFrame kind (s.pushRx b).endFrame))
  | delivered (p : List Byte) (hcur : s.cur.toNat < 1026) (hexp : p.length + 2 = s.exp.toNat) (hp : p.length ≤ 1024)
      (hframe : taken ++ [b] = frame s.crcParams p false) :
      FrameAnswer taken b s
        (andThen (deliver p (s.pushRx b).endFrame) fun u => .next (u, OpResult.plain .delivered))

/-- A LEN in range fits `EXP`. -/
theorem toNat_setWidth_of_lengthOk {n : Word} (hn : lengthOk n = true) : (n.setWidth 11).toNat = n.toNat := by
  obtain ⟨-, hmax⟩ := (lengthOk_iff n).1 hn
  rw [BitVec.toNat_setWidth]
  omega

/-- The fourth header byte: the header is accepted, or the frame rejected (R133 to R135). -/
theorem FrameAnswer.validateHeader {taken : List Byte} {b h0 h1 h2 : Byte} {s : State}
    (htaken : taken = [Config.stx, h0, h1, h2]) : FrameAnswer taken b s (.next (validateHeader h0 h1 h2 b (s.pushRx b))) := by
  rcases validateHeader_cases h0 h1 h2 b (s.pushRx b) with ⟨hr, hl, e⟩ | ⟨-, -, e⟩ | ⟨-, e⟩ <;> rw [e]
  · obtain ⟨hmin, -⟩ := (lengthOk_iff _).1 hl
    have hheader : taken ++ [b] = Config.stx :: header (le16 h0 h1) ++ [] := by
      rw [← header_of_redundancyOk hr, htaken]
      rfl
    have hpos : ([] : List Byte).length < (le16 h0 h1).toNat := Nat.zero_lt_two.trans_le hmin
    exact .more _ (.body _ [] rfl hl (toNat_setWidth_of_lengthOk hl) hheader hpos ⟨rfl, rfl⟩) rfl rfl
  · exact .rejected _ (by decide)
  · exact .rejected _ (by decide)

/-- A header of the length of `p` in front of `p` and its trailer is the frame of `p`. -/
theorem frame_of_header {c : CrcParams} {n : Word} {p : List Byte} {c0 c1 : Byte} (hn : n.toNat = p.length + 2)
    (hp : p.length ≤ 1024) (hcrc : crc16 c p = le16 c0 c1) :
    Config.stx :: header n ++ (p ++ [c0, c1]) = frame c p false := by
  have hadv : advertisedLen p false = n := by
    apply BitVec.eq_of_toNat_eq
    rw [toNat_advertisedLen false hp, hn]
    rfl
  simp [frame, hadv, trailer, hcrc]

/-- The last byte of a frame: the payload is delivered if the trailer is its checksum (R138 to R141). -/
theorem FrameAnswer.judgeBody {taken p : List Byte} {b c0 c1 : Byte} {n : Word} {s : State} (hn : n.toNat = p.length + 2)
    (hexp : s.exp.toNat = n.toNat) (hcur : s.cur.toNat < 1026) (hp : p.length ≤ 1024)
    (htaken : taken ++ [b] = Config.stx :: header n ++ (p ++ [c0, c1])) :
    FrameAnswer taken b s (judgeBody p (le16 c0 c1) (s.pushRx b).endFrame) := by
  unfold Machine.judgeBody
  split
  · rename_i hcrc
    exact .delivered p hcur (by omega) hp (htaken.trans (frame_of_header hn hp hcrc))
  · exact .rejected _ (by decide)

/-- RXB of one more byte of a frame in progress never faults, and delivers only the payload whose frame has come in. -/
theorem Collected.rxbOp {taken : List Byte} {s : State} (b : Byte) (h : Collected taken s) :
    FrameAnswer taken b s (rxbOp b s) := by
  cases h with
  | header hd hst htaken hlen hbuf =>
    have hcur := hbuf.cur
    by_cases hc : s.cur.toNat < 3
    · rw [rxbOp_headerByte b hst hc]
      refine .more _ (.header (hd ++ [b]) hst (by rw [htaken]; rfl) ?_ (hbuf.pushRx b (by omega))) rfl rfl
      rw [List.length_append, List.length_singleton]
      omega
    · obtain ⟨h0, h1, h2, rfl⟩ := List.length_eq_three.1 (show hd.length = 3 by omega)
      rw [rxbOp_headerLast b hst hcur hbuf.read]
      exact .validateHeader htaken
  | body n body hst hn hexp htaken hlt hbuf =>
    have hcur := hbuf.cur
    obtain ⟨hmin, hmax⟩ := (lengthOk_iff n).1 hn
    by_cases hc : s.cur.toNat + 1 < s.exp.toNat
    · rw [rxbOp_bodyByte b hst (by omega) hc]
      refine .more _ (.body n (body ++ [b]) hst hn hexp (by simp [htaken]) ?_ (hbuf.pushRx b (by omega))) rfl rfl
      rw [List.length_append, List.length_singleton]
      omega
    · have hsnoc : (body ++ [b]).length = n.toNat := by
        rw [List.length_append, List.length_singleton]
        omega
      obtain ⟨p, c0, c1, hp⟩ := exists_body_trailer (l := body ++ [b]) (by omega)
      have hplen : n.toNat = p.length + 2 := by rw [← hsnoc, hp]; simp
      rw [rxbOp_bodyLast hst (by omega) (by omega) (hcur ▸ hbuf.read) hp]
      refine .judgeBody hplen hexp (by omega) (by omega) ?_
      rw [htaken, ← hp, List.append_assoc]

/-! ### Delivered means received (R151) -/

theorem crcParams_closed : Closed fun s t => t.crcParams = s.crcParams where
  refl _ := rfl
  trans h k := k.trans h
  decoder h := by cases h <;> rfl
  handlerOp h := by
    obtain ⟨m, n, o, x, l, e⟩ := (handlerOp_step h).rest
    rw [e]
  logDelivery _ _ := rfl
  setHandler _ _ := rfl
  record _ _ := rfl
  recordHandler _ _ := rfl

/-- A frame in progress that does not end with `b` goes on with it. -/
theorem Collected.execRxb {taken : List Byte} {b : Byte} {s t : State} (h : Collected taken s) (ht : execRxb b s = .next t)
    (hst : t.st ≠ .awaitingStart) : Collected (taken ++ [b]) t := by
  have hanswer := h.rxbOp b
  obtain ⟨q, hq, rfl⟩ := finishOp_eq_next.1 ht
  generalize Machine.rxbOp b s = a at hanswer hq
  cases hanswer with
  | more u hu =>
    cases hq
    exact hu.record _
  | rejected kind =>
    cases hq
    rw [rejectFrame_eq] at hst
    exact absurd rfl hst
  | delivered p =>
    obtain ⟨u, hu, hq⟩ := andThen_eq_next.1 hq
    cases hq
    obtain ⟨m, n, o, x, l, y, rfl⟩ := deliver_step hu
    exact absurd rfl hst

/-- A payload delivered on `b` is the one whose frame is complete with `b`. -/
theorem Collected.frame_of_delivery {taken p : List Byte} {b : Byte} {s t : State} (h : Collected taken s)
    (ht : Machine.execRxb b s = .next t) (hdlv : t.dlv = s.dlv ++ [p]) :
    taken ++ [b] = frame s.crcParams p false ∧ p.length ≤ 1024 := by
  have hanswer := h.rxbOp b
  obtain ⟨q, hq, rfl⟩ := finishOp_eq_next.1 ht
  generalize Machine.rxbOp b s = a at hanswer hq
  cases hanswer with
  | more u _ hu =>
    cases hq
    rw [State.record_dlv, hu] at hdlv
    simp at hdlv
  | rejected kind =>
    cases hq
    rw [rejectFrame_eq] at hdlv
    simp [sendFrame] at hdlv
  | delivered p' _ _ hp hframe =>
    obtain ⟨u, hu, hq⟩ := andThen_eq_next.1 hq
    cases hq
    obtain ⟨m, n, o, x, l, y, rfl⟩ := deliver_step hu
    obtain rfl : p' = p := by simpa using hdlv
    exact ⟨hframe, hp⟩

theorem rxbOp_discards {b : Byte} {s : State} (hst : s.st = .awaitingStart) (hb : b ≠ Config.stx) :
    rxbOp b s = .next (s, OpResult.plain .ok) := by
  rw [rxbOp_of_scanning b hst, rxbStart, if_neg hb]

theorem rxbOp_starts {s : State} (hst : s.st = .awaitingStart) :
    rxbOp Config.stx s = .next (s.startFrame Config.stx, OpResult.plain .ok) := by
  rw [rxbOp_of_scanning _ hst, rxbStart, if_pos rfl]

/-- In `AwaitingStart` no byte delivers anything (R131). -/
theorem dlv_of_scanning {b : Byte} {s t : State} (hst : s.st = .awaitingStart) (ht : execRxb b s = .next t) : t.dlv = s.dlv := by
  obtain ⟨q, hq, rfl⟩ := finishOp_eq_next.1 ht
  by_cases hb : b = Config.stx
  · subst hb
    rw [rxbOp_starts hst] at hq
    cases hq
    rfl
  · rw [rxbOp_discards hst hb] at hq
    cases hq
    rfl

/-- From `AwaitingStart` a byte that does not leave the decoder there is an STX, and the frame in progress. -/
theorem collected_of_scanning {b : Byte} {s t : State} (hst : s.st = .awaitingStart) (ht : execRxb b s = .next t)
    (hne : t.st ≠ .awaitingStart) : Collected [b] t := by
  obtain ⟨q, hq, rfl⟩ := finishOp_eq_next.1 ht
  by_cases hb : b = Config.stx
  · subst hb
    rw [rxbOp_starts hst] at hq
    cases hq
    exact .header [] rfl rfl (Nat.zero_le 3) ⟨rfl, rfl⟩
  · rw [rxbOp_discards hst hb] at hq
    cases hq
    exact absurd hst hne

/-- The bytes from `s` on leave the decoder outside `AwaitingStart`, each of them. -/
def StaysInFrame (bytes : List Byte) (s : State) : Prop :=
  ∀ k v, 1 ≤ k → k ≤ bytes.length → feedBytes (bytes.take k) s = .next v → v.st ≠ .awaitingStart

theorem StaysInFrame.head {b : Byte} {bytes : List Byte} {s t : State} (h : StaysInFrame (b :: bytes) s)
    (ht : execRxb b s = .next t) : t.st ≠ .awaitingStart :=
  h 1 t (Nat.le_refl 1) (by simp) (by simp [feedBytes_cons, ht])

theorem StaysInFrame.tail {b : Byte} {bytes : List Byte} {s t : State} (h : StaysInFrame (b :: bytes) s)
    (ht : execRxb b s = .next t) : StaysInFrame bytes t := by
  intro k v _ hk hv
  refine h (k + 1) v (by omega) (by simpa using hk) ?_
  rw [List.take_succ_cons, feedBytes_cons, ht, andThen_next, hv]

/-- The bytes that keep a frame in progress are collected. -/
theorem Collected.feedBytes {taken bytes : List Byte} {s t : State} (h : Collected taken s) (hstays : StaysInFrame bytes s)
    (ht : feedBytes bytes s = .next t) : Collected (taken ++ bytes) t := by
  induction bytes generalizing taken s with
  | nil =>
    cases ht
    rwa [List.append_nil]
  | cons b bytes ih =>
    obtain ⟨u, hu, ht⟩ := andThen_eq_next.1 ht
    have hnext := ih (h.execRxb hu (hstays.head hu)) (hstays.tail hu) ht
    rwa [List.append_assoc] at hnext

/-- Settles O44: the bytes since the decoder was last in `AwaitingStart` are collected in RXBUF, by induction on them, and a payload
is delivered only on the byte that completes its frame. -/
theorem deliveredMeansTheFrameWasReceived : Obligations.DeliveredMeansTheFrameWasReceived := by
  intro bytes b s t u p hst hstays ht hu hdlv
  cases bytes with
  | nil =>
    cases ht
    rw [dlv_of_scanning hst hu] at hdlv
    simp at hdlv
  | cons b0 bytes =>
    have hcrc : t.crcParams = s.crcParams := crcParams_closed.feedBytes ht
    obtain ⟨v, hv, ht⟩ := andThen_eq_next.1 ht
    have hstays : StaysInFrame (b0 :: bytes) s := hstays
    have hcollected := (collected_of_scanning hst hv (hstays.head hv)).feedBytes (hstays.tail hv) ht
    rw [← hcrc]
    exact hcollected.frame_of_delivery hu hdlv

/-! ### RXB completes (R130, R142) -/

/-- A delivery to a handler that keeps to its contract completes. -/
theorem deliver_completes (p : List Byte) {s : State} (h : Inv s) (hlaw : LawfulHandler s) : ∃ t, deliver p s = .next t := by
  have hrun : Unrefused (fun _ => True) (deliver p s) := by
    unfold deliver
    split
    · trivial
    · rename_i ops rest hs
      exact runHandler_unrefused (hlaw ops (by simp [hs])) _
  obtain ⟨t, ht, -⟩ := (deliver_safe p h).exists_next hrun
  exact ⟨t, ht⟩

/-- What R130 and R142 say of the answer `q` of RXB of `b`: it has one of five kinds, and a payload was delivered, its frame having
come in, when and only when the kind is `DELIVERED`. -/
structure Completes (b : Byte) (s : State) (q : State × OpResult) : Prop where
  results : q.1.results = s.results
  kind : q.2.code = .ok ∨ q.2.code = .delivered ∨ q.2.code.IsReceiveError
  delivered : q.2.code = .delivered →
    ∃ p, q.1.dlv = s.dlv ++ [p] ∧ p.length + 2 = s.exp.toNat ∧ s.frameBytes ++ [b] = frame s.crcParams p false
  quiet : q.2.code ≠ .delivered → q.1.dlv = s.dlv

theorem Completes.ok {b : Byte} {s t : State} (hres : t.results = s.results) (hdlv : t.dlv = s.dlv) :
    Completes b s (t, OpResult.plain .ok) :=
  ⟨hres, .inl rfl, nofun, fun _ => hdlv⟩

theorem Completes.rejectFrame {b : Byte} {s t : State} {kind : ResultCode} (hkind : kind.IsReceiveError)
    (hres : t.results = s.results) (hdlv : t.dlv = s.dlv) : Completes b s (rejectFrame kind t) := by
  rw [rejectFrame_eq]
  refine ⟨hres, .inr (.inr hkind), fun e => ?_, fun _ => hdlv⟩
  obtain rfl : kind = .delivered := e
  exact absurd hkind (by decide)

/-- RXB has an answer that R130 lists. -/
theorem rxbOp_completes (b : Byte) {s : State} (h : Inv s) (hlaw : LawfulHandler s) :
    ∃ q, rxbOp b s = .next q ∧ Completes b s q := by
  by_cases hst : s.st = .awaitingStart
  · refine ⟨rxbStart b s, rxbOp_of_scanning b hst, ?_⟩
    unfold rxbStart
    split <;> exact .ok rfl rfl
  · have hanswer := (h.collected hst).rxbOp b
    generalize rxbOp b s = a at hanswer ⊢
    cases hanswer with
    | more t _ hdlv hres => exact ⟨_, rfl, .ok hres hdlv⟩
    | rejected kind hkind => exact ⟨_, rfl, .rejectFrame hkind rfl rfl⟩
    | delivered p hcur hexp _ hframe =>
      obtain ⟨u, hu⟩ := deliver_completes p (h.endFrame_pushRx b hcur) hlaw
      rw [hu]
      obtain ⟨m, n, o, x, l, y, rfl⟩ := deliver_step hu
      exact ⟨_, rfl, rfl, .inr (.inl rfl), fun _ => ⟨p, rfl, hexp, hframe⟩, fun hne => absurd rfl hne⟩

/-- Settles O26: the answer that R130 lists, with its result recorded. -/
theorem rxbAlwaysCompletes : Obligations.RxbAlwaysCompletes := by
  intro b s hinv hlaw
  obtain ⟨q, hq, hresults, hkind, hdelivered, hquiet⟩ := rxbOp_completes b hinv hlaw
  exact ⟨_, q.2, finishOp_eq_next.2 ⟨q, hq, rfl⟩, by rw [State.record_results, hresults], hkind, hdelivered, hquiet⟩

end Sys2Proof.Machine
end

section
/-! PROOFS. RXB row by row as the next state that it leaves (41_decoder.md R131 to R141), and the handler of a delivery (R144). -/

namespace Sys2Proof.Machine

/-! ### The next state of RXB -/

theorem exec_rxb_of_next {b : Byte} {s : State} {q : State × OpResult} (h : rxbOp b s = .next q) :
    exec (.rxb b) s = .next (q.1.record q.2) :=
  finishOp_eq_next.2 ⟨q, h, rfl⟩

theorem storesAt_writeByte (m : Memory) (i : Nat) (b : Byte) : StoresAt m (m.writeByte i b) i b :=
  ⟨m.readByte_writeByte_same i b, fun _ ha => m.readByte_writeByte_other b ha⟩

/-- Settles O18: the two branches of the synchronizer. -/
theorem scanningStopsAtStx : Obligations.ScanningStopsAtStx :=
  ⟨fun _ _ hst hb => exec_rxb_of_next (rxbOp_discards hst hb), fun _ hst => exec_rxb_of_next (rxbOp_starts hst)⟩

/-- Settles O19: one of the first three header bytes is stored. -/
theorem headerBytesAccumulate : Obligations.HeaderBytesAccumulate := by
  intro b s hst hc
  exact ⟨_, exec_rxb_of_next (rxbOp_headerByte b hst hc), toNat_succ (by omega), storesAt_writeByte ..⟩

/-- Settles O20: the fourth byte completes a header that the validator accepts, and a LEN in range fits `EXP`. -/
theorem headerAccepted_of_valid : Obligations.HeaderAccepted := by
  intro h0 h1 h2 h3 s hst hc hread hr0 hr1 hmin hmax
  have hcur : s.cur.toNat = 3 := congrArg BitVec.toNat hc
  have hlen : lengthOk (le16 h0 h1) = true := (lengthOk_iff _).2 ⟨hmin, hmax⟩
  have hjudge : validateHeader h0 h1 h2 h3 (s.pushRx h3) = (acceptHeader (le16 h0 h1) (s.pushRx h3), OpResult.plain .ok) := by
    rw [validateHeader, if_pos ((redundancyOk_iff ..).2 ⟨hr0, hr1⟩), if_pos hlen]
  refine ⟨_, _, exec_rxb_of_next ((rxbOp_headerLast h3 hst hcur hread).trans (congrArg _ hjudge)),
    toNat_setWidth_of_lengthOk hlen, ?_⟩
  rw [← hcur]
  exact storesAt_writeByte ..

/-- Settles O23: a body byte that is not the last is stored. -/
theorem bodyBytesAccumulate : Obligations.BodyBytesAccumulate := by
  intro b s hst he hc
  exact ⟨_, exec_rxb_of_next (rxbOp_bodyByte b hst he hc), toNat_succ (by omega), by omega, storesAt_writeByte ..⟩

/-- The state in which a frame is judged (R138): its last byte is stored, the cursor stands at `EXP`, and the decoder is scanning. -/
def State.complete (b : Byte) (s : State) : State :=
  { s with rxbuf := s.rxbuf.writeByte s.cur.toNat b, cur := s.exp, st := .awaitingStart, frameBytes := [] }

/-- RXB of the last byte of a frame, whose body and trailer are then judged (R138, R139). -/
theorem exec_rxb_bodyLast {b c0 c1 : Byte} {bs body : List Byte} {s : State} (hst : s.st = .receiving)
    (he : s.exp.toNat ≤ 1026) (hc : s.cur.toNat + 1 = s.exp.toNat) (hr : s.rxbuf.readBytes 0 s.cur.toNat = some bs)
    (hb : bs ++ [b] = body ++ [c0, c1]) :
    exec (.rxb b) s = finishOp (judgeBody body (le16 c0 c1) (s.complete b)) := by
  have hcur : s.cur + 1#11 = s.exp := BitVec.eq_of_toNat_eq ((toNat_succ (by omega)).trans hc)
  have hcomplete : (s.pushRx b).endFrame = s.complete b := by simp [State.pushRx, State.endFrame, State.complete, hcur]
  rw [← hcomplete, ← rxbOp_bodyLast hst he hc hr hb]
  rfl

/-- A body whose checksum is the trailer is delivered, and the result follows what the handler did (R139, R140). -/
theorem finishOp_judgeBody_of_match {p : List Byte} {w : Word} {s : State} (h : crc16 s.crcParams p = w) :
    finishOp (judgeBody p w s) =
      andThen (deliver p s) fun u => .next { u with results := u.results ++ [OpResult.plain .delivered] } := by
  rw [judgeBody_of_match h, finishOp, andThen_assoc]
  rfl

theorem deliver_of_silent {p : List Byte} {s : State} (h : s.handler = []) : deliver p s = .next (s.logDelivery p) := by
  rw [deliver, h]

/-- Settles O24: the trailer read back is the checksum of the body. -/
theorem matchingFrameIsDelivered : Obligations.MatchingFrameIsDelivered := by
  intro b s bs body hst he hc hr hb
  have hexec := (exec_rxb_bodyLast hst he hc hr hb).trans (finishOp_judgeBody_of_match (le16_lo_hi _).symm)
  refine ⟨_, storesAt_writeByte .., hexec, fun hh => ?_⟩
  rw [hexec]
  exact congrArg (andThen · _) (deliver_of_silent (s := s.complete b) hh)

/-- A body whose checksum is not the trailer is rejected, and the error frame written to the cache (R141, R206). -/
theorem finishOp_judgeBody_of_mismatch {p : List Byte} {w : Word} {s : State} (h : crc16 s.crcParams p ≠ w) :
    finishOp (judgeBody p w s) =
      .next (rejected .checksumMismatch (s.txbuf.writeBytes 0 (errFrame s.crcParams s.os)) s) := by
  rw [judgeBody, if_neg h, rejectFrame_eq]
  rfl

/-- Settles O25: the trailer read back is not the checksum of the body. -/
theorem mismatchedFrameIsRejected : Obligations.MismatchedFrameIsRejected := by
  intro b c0 c1 s bs body hst he hc hr hb hcrc
  exact ⟨_, _, (exec_rxb_bodyLast hst he hc hr hb).trans (finishOp_judgeBody_of_mismatch hcrc),
    storesAt_writeByte .., storesFromZero_writeBytes ..⟩

/-! ### The handler (R144) -/

/-- Settles O27: a delivery by the answers that the handler has left, a run of the handler by its operations; the host's results
are the same before and after an operation of the handler. -/
theorem handlerOperationsRunByTheirOwnRules : Obligations.HandlerOperationsRunByTheirOwnRules := by
  refine ⟨fun p s hh => deliver_of_silent hh, fun p s ops rest hh => by rw [deliver, hh]; rfl, fun s => rfl, ?_⟩
  intro i rest s t hi h
  rw [exec_of_encoderSide hi] at h
  obtain ⟨q, hq, rfl⟩ := finishOp_eq_next.1 h
  obtain ⟨m, n, o, x, l, hstep⟩ := (handlerOp_step hq).rest
  refine ⟨q.2, ?_, ?_⟩
  · rw [State.record_results, hstep]
  · rw [runHandler, hq, andThen_next, hstep]
    rfl

end Sys2Proof.Machine
end

section
/-! PROOFS. Streams of bytes on the wire-in stream (41_decoder.md R143 to R150): garbage before a frame, a frame with a wrong trailer, and
a chunk at the head of the inputs, step by step and whole. -/

namespace Sys2Proof.Machine

/-! ### Garbage before a frame (R131, R150) -/

/-- Settles O39: each byte is discarded, by induction on their number. -/
theorem garbageBeforeAFrameIsIgnored : Obligations.GarbageBeforeAFrameIsIgnored := by
  intro garbage bytes s hst hgarbage
  show _ = feedBytes bytes (s.quiet garbage.length)
  induction garbage generalizing s with
  | nil => simp
  | cons b garbage ih =>
    obtain ⟨hb, hgarbage⟩ := List.forall_mem_cons.1 hgarbage
    calc feedBytes (b :: (garbage ++ bytes)) s
      _ = feedBytes (garbage ++ bytes) (s.quiet 1) := feedBytes_cons_of_next _ (rxbOp_discards hst hb)
      _ = feedBytes bytes ((s.quiet 1).quiet garbage.length) := ih (s.quiet 1) hst hgarbage
      _ = feedBytes bytes (s.quiet (garbage.length + 1)) := by rw [State.quiet_quiet, Nat.add_comm]

/-! ### A wrong trailer (R141, R149) -/

/-- Settles O41: on its last byte the frame is judged, and rejected. -/
theorem corruptedFrameCausesOneErrorFrame : Obligations.CorruptedFrameCausesOneErrorFrame := by
  intro p c0 c1 s hst hp hcrc
  have hquiet : (s.quiet 5).quiet (p.length + 1) = s.quiet (p.length + 6) := by rw [State.quiet_quiet, Nat.add_comm 5]
  exact ⟨_, (feedBytes_frame c0 c1 hst hp).trans (finishOp_judgeBody_of_mismatch hcrc.symm), rfl, rfl, rfl, rfl, rfl, rfl,
    s.txbuf.readBytes_writeBytes 0 (errFrame s.crcParams s.os), congrArg (·.results ++ _) hquiet⟩

/-! ### A chunk (R143) -/

/-- Settles O57: the instruction at the front of the chunk is what `wireHead` finds there. -/
theorem stepRunsTheChunkFed : Obligations.StepRunsTheChunkFed := by
  refine ⟨fun s bytes more rest i hc hq hst hd => ?_, fun s b bs rest hc hq hhead => ?_⟩
  · cases bytes with
    | nil => cases hd
    | cons b bs =>
      apply step_of_runFed (i := i)
      have hhead : wireHead s.st s.crcParams b bs = (i, more) := by simp [wireHead, hst, hd]
      simp [fetch, hc, hq, hhead, State.setInputs]
  · apply step_of_runFed (i := .rxb b)
    have hhead : wireHead s.st s.crcParams b bs = (.rxb b, bs) := by
      rcases wireHead_cases s.st s.crcParams b bs with h | ⟨hst, hd⟩
      · exact h
      · rcases hhead with hne | ⟨e, he⟩
        · exact absurd hst hne
        · rw [he] at hd
          cases hd
    simp [fetch, hc, hq, hhead, State.setInputs]

/-- Settles O45: a chunk at the head of the inputs runs as the RXB of its bytes, none of which touches the ports. -/
theorem feedProcessesTheWholeChunk : Obligations.FeedProcessesTheWholeChunk := by
  intro chunk rest s u hc hhit hq hu
  have hports : u.ports = (s.setInputs rest).ports := ports_of_feedBytes hu
  have hstart : (s.setInputs rest).setInputs (.feed chunk :: rest) = s := by rw [← hq]; rfl
  obtain ⟨k, hk⟩ := reaches_of_feedBytes rest (s := s.setInputs rest) hc hu
  rw [hstart] at hk
  refine ⟨k, hk.trans (congrArg _ ?_)⟩
  have hreturns : u.feedReturns = s.feedReturns := congrArg Ports.feedReturns hports
  have hrest : u.inputs = rest := congrArg Ports.inputs hports
  rw [show (s.setInputs rest).feedHit = false from hhit, Bool.false_or, ← hports, ← hreturns, ← hrest]
  rfl

end Sys2Proof.Machine
end

section
/-! PROOFS. The checksum tells two bodies apart that differ in one byte (42_checksum.md R179): with a polynomial whose constant term is 1
each clock of the shift register can be undone, so that no difference once in the register is lost. -/

namespace Sys2Proof.Machine

section Invertible
variable {c : CrcParams}

/-- A register that is not zero goes to one that is not zero: the bit shifted in is 0, so that the polynomial's constant term
shows where it was added. -/
theorem crcBit_eq_zero {poly r : Word} (hpoly : poly.getLsbD 0 = true) (h : crcBit poly r = 0) : r = 0 := by
  unfold crcBit at h
  split at h
  · have hbit := congrArg (fun w : Word => w.getLsbD 0) h
    simp [-BitVec.getLsbD_eq_getElem, hpoly] at hbit
  · rename_i hmsb
    have hlt := BitVec.msb_eq_false_iff_two_mul_lt.1 (by simpa using hmsb)
    have hnat := congrArg BitVec.toNat h
    rw [BitVec.toNat_shiftLeft, Nat.shiftLeft_eq] at hnat
    change r.toNat * 2 % 65536 = 0 at hnat
    apply BitVec.eq_of_toNat_eq
    change r.toNat = 0
    omega

theorem crcBits_injective {poly : Word} (hpoly : poly.getLsbD 0 = true) (n : Nat) :
    Function.Injective (crcBits poly n) := by
  induction n with
  | zero => exact fun _ _ h => h
  | succ n ih =>
    intro a b h
    have hbit : crcBit poly (a ^^^ b) = 0 := by
      exact (crcBit_xor ..).trans (BitVec.xor_eq_zero_iff.2 (ih h))
    exact BitVec.xor_eq_zero_iff.1 (crcBit_eq_zero hpoly hbit)

/-- From two registers the same byte leads to two registers. -/
theorem crcByte_injective_left (hpoly : c.poly.getLsbD 0 = true) (b : Byte) :
    Function.Injective fun r => crcByte c r b :=
  fun _ _ h => (BitVec.xor_left_inj _).1 (crcBits_injective hpoly 8 h)

/-- The byte that `crc_byte` adds to the register is the high byte of what it adds. -/
theorem hi_setWidth_shiftLeft (b : Byte) : hi (b.setWidth 16 <<< 8) = b := by
  have := b.isLt
  apply BitVec.eq_of_toNat_eq
  rw [toNat_hi, BitVec.toNat_shiftLeft, BitVec.toNat_setWidth, Nat.shiftLeft_eq]
  omega

/-- Reversing the order of the bits loses nothing. -/
theorem reverse_injective {w : Nat} : Function.Injective (BitVec.reverse (w := w)) :=
  Function.LeftInverse.injective fun _ => BitVec.reverse_reverse_eq

/-- From one register two bytes lead to two registers. -/
theorem crcByte_injective_right (hpoly : c.poly.getLsbD 0 = true) (r : Word) : Function.Injective (crcByte c r) := by
  intro a b h
  have h := congrArg hi ((BitVec.xor_right_inj _).1 (crcBits_injective hpoly 8 h))
  rw [hi_setWidth_shiftLeft, hi_setWidth_shiftLeft] at h
  split at h
  · exact reverse_injective h
  · exact h

theorem foldl_crcByte_injective (hpoly : c.poly.getLsbD 0 = true) (s : List Byte) :
    Function.Injective (s.foldl (crcByte c)) := by
  induction s with
  | nil => exact fun _ _ h => h
  | cons b s ih => exact fun _ _ h => crcByte_injective_left hpoly b (ih h)

/-- The reflection and the final sum of R171 lose nothing. -/
theorem crcr_eq_of_crc16_eq {s t : List Byte} (h : crc16 c s = crc16 c t) : crcr c s = crcr c t := by
  have h := (BitVec.xor_left_inj _).1 h
  split at h
  · exact reverse_injective h
  · exact h

end Invertible

/-- Settles O4: the byte that differs leaves a difference in the register, and the bytes behind it keep one. -/
theorem crcDetectsOneCorruptedByte : Obligations.CrcDetectsOneCorruptedByte := by
  refine ⟨fun c pre suf a b hpoly hne h => hne ?_, rfl⟩
  have hreg := crcr_eq_of_crc16_eq h
  rw [crcr_append, crcr_append] at hreg
  exact crcByte_injective_right hpoly _ (foldl_crcByte_injective hpoly suf hreg)

end Sys2Proof.Machine
end

section
/-! PROOFS. The byte-wide table form of the generator (42_checksum.md R174), the checksums that the spec lists (R176, R180) and the
operation CRC (R175). -/

namespace Sys2Proof.Machine

/-! ### The table form (R174) -/

/-- While only zeros are shifted out, the clocks of the register never add the polynomial. -/
theorem crcBits_eq_shiftLeft (poly : Word) {n : Nat} {r : Word} (h : r.toNat * 2 ^ n < 65536) :
    crcBits poly n r = r <<< n := by
  induction n generalizing r with
  | zero => simp [crcBits]
  | succ n ih =>
    have hdouble : r.toNat * 2 * 2 ^ n < 65536 := by rwa [Nat.mul_assoc, ← Nat.pow_succ']
    have hlt : r.toNat * 2 < 65536 := (Nat.le_mul_of_pos_right _ (Nat.two_pow_pos n)).trans_lt hdouble
    have hmsb : r.msb = false := BitVec.msb_eq_false_iff_two_mul_lt.2 (by omega)
    have hshift : (r <<< 1).toNat = r.toNat * 2 := by
      rw [BitVec.toNat_shiftLeft, Nat.shiftLeft_eq]
      exact Nat.mod_eq_of_lt hlt
    calc crcBits poly (n + 1) r
      _ = crcBits poly n (r <<< 1) := by simp [crcBits, crcBit, hmsb]
      _ = r <<< 1 <<< n := ih (by rwa [hshift])
      _ = r <<< (n + 1) := by rw [← BitVec.shiftLeft_add, Nat.add_comm]

/-- The assembly of two bytes is the sum of the high one, shifted into place, and the low one. -/
theorem shiftLeft_xor_eq_le16 (a b : Byte) : b.setWidth 16 <<< 8 ^^^ a.setWidth 16 = le16 a b := by
  ext i hlt
  rw [le16, BitVec.getElem_append, BitVec.getElem_xor, BitVec.getElem_shiftLeft]
  by_cases h : i < 8
  · simp [h]
  · have ha : a.getLsbD i = false := BitVec.getLsbD_of_ge a i (Nat.le_of_not_lt h)
    have hb : i - 8 < 8 := by omega
    simp [h, ha, hb]

/-- The eight clocks on the low byte of a register only move it up. -/
theorem crcBits_lo (poly r : Word) : crcBits poly 8 ((lo r).setWidth 16) = r <<< 8 := by
  have hlt := (lo r).isLt
  have hnat : ((lo r).setWidth 16).toNat = (lo r).toNat := by
    rw [BitVec.toNat_setWidth]
    omega
  rw [crcBits_eq_shiftLeft poly (by rw [hnat]; omega)]
  apply BitVec.eq_of_toNat_eq
  rw [BitVec.toNat_shiftLeft, BitVec.toNat_shiftLeft, hnat, toNat_lo, Nat.shiftLeft_eq, Nat.shiftLeft_eq]
  omega

/-- `crc_byte` on unreflected input (R173). -/
theorem crcByte_of_not_refin {c : CrcParams} (h : c.refin = false) (r : Word) (b : Byte) :
    crcByte c r b = crcBits c.poly 8 (r ^^^ b.setWidth 16 <<< 8) := by
  simp [crcByte, h]

/-- The table on unreflected input: its index in the high byte of a register that is otherwise 0. -/
theorem crcTable_of_not_refin {c : CrcParams} (h : c.refin = false) (k : Byte) :
    crcTable c k = crcBits c.poly 8 (k.setWidth 16 <<< 8) := by
  simp [crcTable, crcByte_of_not_refin h]

/-- The byte-wide step for every polynomial: by linearity the table does the high byte, and the low byte moves up. -/
theorem crcByte_eq_shiftLeft_xor_crcTable {c : CrcParams} (h : c.refin = false) (r : Word) (b : Byte) :
    crcByte c r b = r <<< 8 ^^^ crcTable c (hi r ^^^ b) := by
  have hsplit : r ^^^ b.setWidth 16 <<< 8 = (lo r).setWidth 16 ^^^ (hi r ^^^ b).setWidth 16 <<< 8 := by
    conv_lhs => rw [← le16_lo_hi r, ← shiftLeft_xor_eq_le16]
    rw [BitVec.setWidth_xor, BitVec.shiftLeft_xor_distrib]
    ac_rfl
  calc crcByte c r b
    _ = crcBits c.poly 8 ((lo r).setWidth 16 ^^^ (hi r ^^^ b).setWidth 16 <<< 8) := by
      rw [crcByte_of_not_refin h, hsplit]
    _ = r <<< 8 ^^^ crcTable c (hi r ^^^ b) := by rw [crcBits_xor, crcBits_lo, crcTable_of_not_refin h]

/-- Settles O1: the general identity, and the generator evaluated at the four entries. -/
theorem crcByteTableForm : Obligations.CrcByteTableForm :=
  ⟨fun _ r b h => crcByte_eq_shiftLeft_xor_crcTable h r b, rfl, rfl, rfl, rfl⟩

/-! ### Checksums that the spec lists (R176, R180) -/

/-- Nothing is added to the initial register for the empty sequence (R171). -/
theorem crc16_nil (c : CrcParams) : crc16 c [] = (if c.refout then reflect16 c.init else c.init) ^^^ c.xorout := by
  rw [crc16, crcr_nil]

/-- Settles O3: the register stays at `CRC_INIT`, whatever the parameters. -/
theorem crcOfEmptySequence : Obligations.CrcOfEmptySequence := ⟨crc16_nil, rfl⟩

/-- Settles O2: the generator evaluated on the nine sequences. -/
theorem crcValuesOfDefaultParameters : Obligations.CrcValuesOfDefaultParameters := by
  unfold Obligations.CrcValuesOfDefaultParameters
  decide +kernel

/-! ### The operation CRC (R175) -/

/-- CRC is the record of one result. -/
theorem exec_crc (bytes : List Byte) (s : State) :
    exec (.crc bytes) s = .next (s.record (OpResult.ofValue (crc16 s.crcParams bytes))) := rfl

/-- Settles O14: recording a result appends it and leaves the rest of the state. -/
theorem crcReturnsChecksum : Obligations.CrcReturnsChecksum := exec_crc

end Sys2Proof.Machine
end

section
/-! PROOFS. The control family (43_control.md): what SETOS, RST and a reserved word do (R190 to R192), and that no step changes the
checksum parameters (R193). -/

namespace Sys2Proof.Machine

/-! ### Relations across a step -/

/-- A closed relation that RST and the reset input meet too, and the updates that a step makes of the ports. -/
structure StepClosed (R : State → State → Prop) : Prop extends Closed R where
  initialise : ∀ s, R s s.initialise
  setInputs : ∀ q s, R s (s.setInputs q)
  setHeld : ∀ l s, R s (s.setHeld l)
  setFeedHit : ∀ v s, R s (s.setFeedHit v)
  returnFeed : ∀ s, R s s.returnFeed

namespace StepClosed

variable {R : State → State → Prop} {s t : State}

theorem exec (hR : StepClosed R) {i : Instr} (h : exec i s = .next t) : R s t := by
  by_cases hi : i = .rst
  · subst hi
    cases h
    exact hR.trans (hR.initialise s) (hR.record _ _)
  · exact hR.toClosed.exec hi h

theorem fetch (hR : StepClosed R) (s : State) : (fetch s).Holds (R s) :=
  (fetch_case s).holds (hR.refl s) (fun q _ h => hR.trans h (hR.setInputs q _)) (fun l _ h => hR.trans h (hR.setHeld l _))
    (fun _ h => hR.trans h (hR.returnFeed _)) (fun _ h => hR.trans h (hR.initialise _))

theorem step (hR : StepClosed R) (h : step s = .next t) : R s t := by
  have hf := hR.fetch s
  unfold Machine.step at h
  split at h <;> rename_i e <;> rw [e] at hf
  · cases h
  · cases h
    exact hf
  · exact hR.trans hf (hR.exec h)
  · obtain ⟨u, hu, h⟩ := andThen_eq_next.1 h
    cases h
    exact hR.trans hf (hR.trans (hR.exec hu) (hR.setFeedHit _ u))

end StepClosed

/-! ### The checksum parameters (R193) -/

/-- Neither reset writes the parameters, nor does an update of the ports. -/
theorem crcParams_stepClosed : StepClosed fun s t => t.crcParams = s.crcParams where
  toClosed := crcParams_closed
  initialise _ := rfl
  setInputs _ _ := rfl
  setHeld _ _ := rfl
  setFeedHit _ _ := rfl
  returnFeed _ := rfl

/-- Settles O59: no update that a step is made of writes the parameters. -/
theorem checksumParametersNeverChange : Obligations.ChecksumParametersNeverChange :=
  fun _ _ h => crcParams_stepClosed.step h

/-! ### SETOS (R191) -/

theorem exec_setos (s : State) : exec .setos s = .next ((s.setOs true).record (OpResult.plain .ok)) := rfl

/-- Settles O15: after two SETOS the flag is set, and the frame that ENC then sends consumes it. -/
theorem setosSetsFlag : Obligations.SetosSetsFlag :=
  ⟨exec_setos, fun s _ hp => ⟨_, _, _, exec_setos s, exec_setos _, exec_enc_of_le hp, rfl, rfl, rfl⟩⟩

/-! ### RST (R190) -/

theorem exec_rst (s : State) : exec .rst s = .next (s.initialise.record (OpResult.plain .ok)) := rfl

/-- Settles O16: the writes of the initialisation, and the record of the result. -/
theorem rstInitialises : Obligations.RstInitialises := exec_rst

/-! ### Reserved command words (R192, R205) -/

/-- Which word it is makes no difference. -/
theorem exec_reserved (cmd : Byte) (s : State) :
    exec (.reserved cmd) s = .next (s.record (OpResult.plain .illegalCommand)) := rfl

/-- Settles O17: recording the result is the whole effect. -/
theorem reservedWordHasNoEffect : Obligations.ReservedWordHasNoEffect := fun cmd s _ => exec_reserved cmd s

end Sys2Proof.Machine
end

section
/-! PROOFS. Exceptions (60_exceptions.md): a header that the validator rejects (R201, R203, R206), frames and error frames at a peer (R212,
R217), that every instruction completes (R220), and a step that runs no operation (R219). -/

namespace Sys2Proof.Machine

/-! ### A rejected header (R201, R203, R206) -/

/-- The reaction to a receive error, its result recorded, leaves the state of R206. -/
theorem finish_rejectFrame (kind : ResultCode) (s : State) :
    finish (rejectFrame kind s) = rejected kind (s.txbuf.writeBytes 0 (errFrame s.crcParams s.os)) s := by
  rw [rejectFrame_eq]
  rfl

/-- A rejection leaves nothing of the frame in progress but its bytes in RXBUF and the cursor behind them (D19). -/
theorem rejected_pushRx (kind : ResultCode) (m : Memory) (b : Byte) {s : State} (hc : s.cur = 3#11) :
    rejected kind m (s.pushRx b) = rejected kind m { s with rxbuf := s.rxbuf.writeByte 3 b, cur := 4#11 } := by
  simp [rejected, State.pushRx, hc]

/-- RXB of the fourth byte of a header that the validator rejects: both buffers are written, and the frame is over. -/
theorem exec_rxb_headerRejected {kind : ResultCode} {h0 h1 h2 h3 : Byte} {s : State} (hst : s.st = .awaitingLength)
    (hc : s.cur = 3#11) (hread : s.rxbuf.readBytes 0 3 = some [h0, h1, h2])
    (hjudge : validateHeader h0 h1 h2 h3 (s.pushRx h3) = rejectFrame kind (s.pushRx h3)) :
    ∃ m mc, exec (.rxb h3) s = .next (rejected kind mc { s with rxbuf := m, cur := 4#11 }) ∧
      StoresAt s.rxbuf m 3 h3 ∧ StoresFromZero s.txbuf mc (errFrame s.crcParams s.os) := by
  refine ⟨_, _, ?_, storesAt_writeByte .., storesFromZero_writeBytes ..⟩
  calc exec (.rxb h3) s
    _ = .next (finish (validateHeader h0 h1 h2 h3 (s.pushRx h3))) :=
      exec_rxb_of_next (rxbOp_headerLast h3 hst (congrArg BitVec.toNat hc) hread)
    _ = .next (rejected kind (s.txbuf.writeBytes 0 (errFrame s.crcParams s.os)) (s.pushRx h3)) := by
      rw [hjudge, finish_rejectFrame]
      rfl
    _ = _ := congrArg _ (rejected_pushRx kind _ h3 hc)

/-- Settles O21: the redundancy test comes first, so LEN is not looked at (R209). -/
theorem headerMismatchRejected : Obligations.HeaderMismatchRejected := by
  intro h0 h1 h2 h3 s hst hc hread hbroken
  have hred : ¬ redundancyOk h0 h1 h2 h3 = true := by
    rw [redundancyOk_iff]
    rintro ⟨hr0, hr1⟩
    exact hbroken.elim (absurd hr0) (absurd hr1)
  exact exec_rxb_headerRejected hst hc hread (if_neg hred)

/-- Settles O22: the header is consistent, and its LEN fails the range test. -/
theorem lengthOutOfRangeRejected : Obligations.LengthOutOfRangeRejected := by
  intro h0 h1 h2 h3 s hst hc hread hr0 hr1 hrange
  have hlen : ¬ lengthOk (le16 h0 h1) = true := by
    rw [lengthOk_iff]
    omega
  refine exec_rxb_headerRejected hst hc hread ?_
  rw [validateHeader, if_pos ((redundancyOk_iff ..).2 ⟨hr0, hr1⟩), if_neg hlen]

/-! ### Frames at a peer (R212, R217) -/

/-- Settles O38: ENC with `OS` clear sends `frame(p, 0)`, which the peer, with the same parameters, delivers (R111). -/
theorem encodedPayloadArrivesAtThePeer : Obligations.EncodedPayloadArrivesAtThePeer := by
  intro p a b hp hos hst hh hcrc
  obtain ⟨hfeed, -, hsilent⟩ := frameIsDelivered p b hst hp
  have hsent : feedBytes (frame a.crcParams p a.os) b = exec (.frame p) b := by rw [hfeed, hos, hcrc]
  exact ⟨_, _, _, exec_enc_of_le hp, rfl, hsent.trans (hsilent hh), rfl, rfl, rfl⟩

/-- The error frame on the wire is the frame of the payload `[0xFF]` (R79, R81). -/
theorem exec_errframe (s : State) : exec .errframe s = exec (.frame [0xFF]) s := rfl

/-- Settles O37: as a frame of one payload byte it is delivered, and touches no encoder element. -/
theorem errorFrameReceivedIsAPayload : Obligations.ErrorFrameReceivedIsAPayload := by
  intro s hst
  obtain ⟨-, hdeliver, hsilent⟩ := frameIsDelivered [0xFF] s hst (by decide)
  rw [exec_errframe]
  exact ⟨hdeliver, fun hh => ⟨_, hsilent hh, rfl, rfl, rfl, rfl, rfl, rfl⟩⟩

/-! ### Every instruction completes (R130, R143, R220) -/

/-- No instruction reads or writes what waits at the ports. -/
theorem exec_setPorts (i : Instr) (p : Ports) (s : State) :
    exec i (s.setPorts p) = andThen (exec i s) fun t => .next (t.setPorts p) := by
  cases hi : encoderSide i with
  | true =>
    rw [exec_of_encoderSide hi, exec_of_encoderSide hi, finishOp, finishOp, handlerOp_setPorts, andThen_assoc, andThen_assoc]
    rfl
  | false =>
    rcases cases_of_not_encoderSide hi with rfl | ⟨b, rfl⟩ | ⟨payload, rfl⟩ | rfl
    · rfl
    · exact execRxb_setPorts p s b
    · exact feedBytes_setPorts p s _
    · exact feedBytes_setPorts p s _

/-- Under the invariants and a lawful handler an instruction goes on and keeps both: it does what it would do with one driver. -/
theorem exec_completes (i : Instr) {s : State} (hinv : Inv s) (hlaw : LawfulHandler s) :
    ∃ t, exec i s = .next t ∧ Inv t ∧ LawfulHandler t := by
  have hone : Disciplined (s.setContended false) := ⟨hlaw, rfl⟩
  have hinv' : Inv (s.setContended false) := { hinv with }
  obtain ⟨t, ht, htinv, htone⟩ := (exec_safe i hinv').exists_next (hone.exec i)
  refine ⟨t.setPorts s.ports, ?_, { htinv with }, htone.handler⟩
  calc exec i s
    _ = exec i ((s.setContended false).setPorts s.ports) := rfl
    _ = .next (t.setPorts s.ports) := by rw [exec_setPorts, ht, andThen_next]

/-- The first byte of a chunk returns a result, and the bytes behind it take none back. -/
theorem feedBytes_cons_records {b : Byte} {bs : List Byte} {s t : State} (h : feedBytes (b :: bs) s = .next t) :
    ∃ r, s.results ++ [r] <+: t.results := by
  obtain ⟨u, hu, ht⟩ := andThen_eq_next.1 h
  obtain ⟨q, rfl, hres, -⟩ := exec_reports (i := .rxb b) rfl hu
  refine ⟨q.2, ?_⟩
  rw [← hres, ← State.record_results]
  exact (HistoriesGrow.closed.feedBytes ht).results

/-- Every instruction that goes on returns a result (R85). -/
theorem exec_records {i : Instr} {s t : State} (h : exec i s = .next t) : ∃ r, s.results ++ [r] <+: t.results := by
  cases hport : i.port with
  | command =>
    obtain ⟨q, rfl, hres, -⟩ := exec_reports hport h
    exact ⟨q.2, by rw [State.record_results, hres]⟩
  | wire =>
    cases i with
    | frame _ | errframe => exact feedBytes_cons_records h
    | rst | enc _ | rpt | raw _ | rxb _ | crc _ | setos | reserved _ => cases hport

/-- Settles O55: the next state, and the results that it adds. -/
theorem everyInstructionCompletes : Obligations.EveryInstructionCompletes := by
  intro i s hinv hlaw
  obtain ⟨t, ht, htinv, htlaw⟩ := exec_completes i hinv hlaw
  obtain ⟨r, rs, hrs⟩ := exec_records ht
  exact ⟨t, ht, htinv, htlaw, r :: rs, by simp [← hrs], Nat.succ_pos _⟩

/-! ### A step without an operation (R219, R240, R64) -/

/-- Settles O58: what is fetched is the state itself, the state after the reset input, or a refusal. -/
theorem stepWithoutAnOperation : Obligations.StepWithoutAnOperation := by
  refine ⟨fun s hc hq => step_of_quiet ?_, fun s rest hc hq => ?_, fun s hc => step_of_refuse ?_⟩
  · simp [fetch, hc, hq]
  · have hreset : fetch s = .quiet (s.setInputs rest).initialise := by simp [fetch, hc, hq]
    exact step_of_quiet hreset
  · simp [fetch, hc]

end Sys2Proof.Machine
end

section
/-! PROOFS. Hazards of the wire-in stream (70_reset_and_hazards.md): a frame whose bytes stay away (R250), and a one-shot frame at its
receiver (R249). -/

namespace Sys2Proof.Machine

/-! ### A decoder that waits for its count of bytes (R146, R250) -/

/-- Settles O43: bytes short of the count are stored, one after another. -/
theorem stalledFrameHoldsTheDecoder : Obligations.StalledFrameHoldsTheDecoder := by
  intro bytes s hst he hc
  exact ⟨_, AwaitsMore.feedBytes (.inr ⟨hst, he, hc⟩), hst, rfl, State.toNat_cur_pushAll (by omega), rfl, rfl,
    ⟨rfl, rfl, rfl⟩, rfl⟩

/-! ### A one-shot frame at its receiver (R80, R249) -/

/-- The receiver of a whole one-shot frame: its header is accepted, and its payload and trailer are stored as the first bytes of a body
of `L + 3`. -/
def oneShotReceived (p : List Byte) (s : State) : State :=
  ((headerAccepted (advertisedLen p true) s).pushAll (p ++ trailer s.crcParams p)).quiet (p.length + 2)

section OneShot
variable {p : List Byte} {s : State}

theorem toNat_advertisedLen_oneShot (hp : p.length ≤ 1024) : (advertisedLen p true).toNat = p.length + 3 :=
  toNat_advertisedLen true hp

theorem lengthOk_oneShot (hp : p.length ≤ 1023) : lengthOk (advertisedLen p true) = true := by
  rw [lengthOk_iff, toNat_advertisedLen_oneShot (by omega)]
  omega

theorem headerAccepted_oneShot_exp (hp : p.length ≤ 1023) :
    (headerAccepted (advertisedLen p true) s).exp.toNat = p.length + 3 :=
  (toNat_setWidth_of_lengthOk (lengthOk_oneShot hp)).trans (toNat_advertisedLen_oneShot (by omega))

theorem length_payload_trailer (c : CrcParams) (p : List Byte) : (p ++ trailer c p).length = p.length + 2 :=
  List.length_append

/-- Behind the header, payload and trailer are one byte short of the count. -/
theorem awaitsMore_oneShot (hp : p.length ≤ 1023) :
    AwaitsMore (p ++ trailer s.crcParams p).length (headerAccepted (advertisedLen p true) s) := by
  have hcur : (headerAccepted (advertisedLen p true) s).cur.toNat = 0 := rfl
  have hexp := headerAccepted_oneShot_exp (s := s) hp
  rw [length_payload_trailer]
  exact .inr ⟨rfl, by omega, by omega⟩

/-- The receiver takes every byte of a one-shot frame and completes nothing. -/
theorem feedBytes_oneShot (hst : s.st = .awaitingStart) (hp : p.length ≤ 1023) :
    feedBytes (frame s.crcParams p true) s = .next (oneShotReceived p s) := by
  rw [frame, List.append_assoc, feedBytes_append, feedBytes_headerAccepted hst (lengthOk_oneShot hp), andThen_next,
    (awaitsMore_oneShot hp).feedBytes, length_payload_trailer, oneShotReceived]

theorem oneShotReceived_exp (hp : p.length ≤ 1023) : (oneShotReceived p s).exp.toNat = p.length + 3 :=
  headerAccepted_oneShot_exp (s := s) hp

theorem oneShotReceived_cur (hp : p.length ≤ 1023) : (oneShotReceived p s).cur.toNat = p.length + 2 := by
  have hfits := (awaitsMore_oneShot (s := s) hp).cur_add_lt
  calc (oneShotReceived p s).cur.toNat
    _ = 0 + (p ++ trailer s.crcParams p).length := State.toNat_cur_pushAll (by omega)
    _ = p.length + 2 := by rw [length_payload_trailer, Nat.zero_add]

/-- The bytes of the body so far are the payload and the trailer. -/
theorem oneShotReceived_read :
    (oneShotReceived p s).rxbuf.readBytes 0 (p.length + 2) = some (p ++ trailer s.crcParams p) :=
  length_payload_trailer s.crcParams p ▸ Memory.readBytes_writeBytes _ 0 _

theorem oneShotReceived_results : (oneShotReceived p s).results = s.results ++ quietResults (p.length + 7) := by
  have hquiet : (s.quiet 5).quiet (p.length + 2) = s.quiet (p.length + 7) := by rw [State.quiet_quiet, Nat.add_comm 5]
  exact congrArg State.results hquiet

/-- One byte more has the payload and the low byte of its checksum judged, by the high byte and that byte (R80). -/
theorem exec_rxb_oneShotReceived (b : Byte) (hp : p.length ≤ 1023)
    (hcrc : crc16 s.crcParams (p ++ [lo (crc16 s.crcParams p)]) ≠ le16 (hi (crc16 s.crcParams p)) b) :
    exec (.rxb b) (oneShotReceived p s) =
      .next (rejected .checksumMismatch (s.txbuf.writeBytes 0 (errFrame s.crcParams s.os)) ((oneShotReceived p s).complete b)) := by
  have hexp : (oneShotReceived p s).exp.toNat = p.length + 3 := oneShotReceived_exp hp
  have hcur : (oneShotReceived p s).cur.toNat = p.length + 2 := oneShotReceived_cur hp
  have hbytes : p ++ trailer s.crcParams p ++ [b] =
      p ++ [lo (crc16 s.crcParams p)] ++ [hi (crc16 s.crcParams p), b] := by simp [trailer]
  have hlast := exec_rxb_bodyLast rfl (by omega) (by omega) (hcur ▸ oneShotReceived_read) hbytes
  exact hlast.trans (finishOp_judgeBody_of_mismatch hcrc)

end OneShot

/-- A header whose LEN is out of range, received from `AwaitingStart`, is rejected on its last byte (R134, R203). -/
theorem feedBytes_headerOutOfRange {n : Word} {s : State} (hst : s.st = .awaitingStart) (hn : ¬ lengthOk n = true) :
    feedBytes (Config.stx :: header n) s =
      .next (rejected .lengthOutOfRange (s.txbuf.writeBytes 0 (errFrame s.crcParams s.os))
        (((s.startFrame Config.stx).pushAll (header n)).quiet 4)) := by
  have hjudge (t : State) : validateHeader (lo n) (hi n) (cpl (lo n)) (cpl (hi n)) t = rejectFrame .lengthOutOfRange t := by
    simp [validateHeader, hn]
  rw [header, feedBytes_header _ _ _ _ hst, hjudge, finish_rejectFrame]
  rfl

/-- Settles O42: a one-shot frame is one byte short of the LEN that it advertises, and LEN 1027 is out of range. -/
theorem oneShotFrameDesynchronisesReceiver : Obligations.OneShotFrameDesynchronisesReceiver := by
  refine ⟨fun p s hst hp => ?_, fun p s hst hp => ?_⟩
  · exact ⟨_, feedBytes_oneShot hst hp, rfl, oneShotReceived_exp hp, oneShotReceived_cur hp, rfl, rfl, oneShotReceived_results,
      ⟨rfl, rfl, rfl⟩, fun b hcrc => ⟨_, exec_rxb_oneShotReceived b hp hcrc, rfl, rfl, rfl, rfl⟩⟩
  · have hlen : ¬ lengthOk (advertisedLen p true) = true := by
      rw [lengthOk_iff, toNat_advertisedLen_oneShot hp.le]
      omega
    exact ⟨_, feedBytes_headerOutOfRange hst hlen, rfl, rfl, rfl⟩

end Sys2Proof.Machine
end

section
/-! PROOFS. Encoder and decoder beside each other (70_reset_and_hazards.md R254, 10_state.md R32): what either side leaves alone; from
it, RPT behind a receive error (R246), and that without SETOS no one-shot frame is sent (R249). -/

namespace Sys2Proof.Machine

/-! ### The encoder side beside the decoder (R32, R254) -/

/-- Settles O29: an operation of the encoder side writes the encoder's elements and the sink's history, then its result. -/
theorem encoderSideLeavesDecoderAlone : Obligations.EncoderSideLeavesDecoderAlone := by
  intro i s t hi h
  rw [exec_of_encoderSide hi] at h
  obtain ⟨⟨t', r⟩, hq, rfl⟩ := finishOp_eq_next.1 h
  obtain ⟨m, n, o, x, l, rfl⟩ := (handlerOp_step hq).rest
  exact ⟨⟨rfl, rfl, rfl, rfl, rfl⟩, rfl, rfl, rfl, rfl, rfl, rfl, rfl⟩

/-- An operation has answered `q` in `s` and `q'` in `s'`: with the same result, the same encoder's elements, and the same
transactions. -/
structure SameEffect (s s' : State) (q q' : State × OpResult) : Prop where
  result : q'.2 = q.2
  encoder : SameEncoder q.1 q'.1
  sent : ∃ x, q.1.tx = s.tx ++ x ∧ q'.1.tx = s'.tx ++ x

section SameEffect
variable {s s' : State}

/-- An operation that writes no encoder element and sends nothing. -/
theorem SameEffect.of_unchanged (r : OpResult) (h : SameEncoder s s') : SameEffect s s' (s, r) (s', r) :=
  ⟨rfl, h, [], (List.append_nil _).symm, (List.append_nil _).symm⟩

/-- A transaction that leaves the encoder's elements. -/
theorem SameEffect.txWrite (f : List Byte) (r : OpResult) (h : SameEncoder s s') :
    SameEffect s s' (s.txWrite f, r) (s'.txWrite f, r) :=
  ⟨rfl, ⟨h.txbuf, h.txlen, h.os⟩, [f], rfl, rfl⟩

/-- The frame sent depends on the parameters, the payload and the flag only (R101, R104). -/
theorem SameEffect.encOp (p : List Byte) (h : SameEncoder s s') (hcrc : s'.crcParams = s.crcParams) :
    SameEffect s s' (encOp p s) (encOp p s') := by
  by_cases hp : p.length ≤ 1024
  · rw [encOp_of_le hp, encOp_of_le hp, hcrc, h.os]
    exact ⟨rfl, ⟨congrArg (Memory.writeBytes · 0 _) h.txbuf, rfl, rfl⟩, [_], rfl, rfl⟩
  · rw [encOp_of_gt (by omega), encOp_of_gt (by omega)]
    exact .of_unchanged _ h

/-- RPT reads the cache only (R106). -/
theorem SameEffect.rptOp {q : State × OpResult} (h : SameEncoder s s') (hq : rptOp s = .next q) :
    ∃ q', rptOp s' = .next q' ∧ SameEffect s s' q q' := by
  obtain ⟨t, r⟩ := q
  obtain ⟨rfl, ⟨h0, rfl⟩ | ⟨h0, hle, f, hread, rfl⟩⟩ := rptOp_eq_next hq
  · exact ⟨_, rptOp_of_empty (h.txlen.trans h0), .of_unchanged _ h⟩
  · rw [← h.txlen] at h0 hle hread
    rw [← h.txbuf] at hread
    exact ⟨_, rptOp_of_cached h0 hle hread, .txWrite f _ h⟩

theorem SameEffect.handlerOp {i : Instr} {q : State × OpResult} (h : SameEncoder s s') (hcrc : s'.crcParams = s.crcParams)
    (hq : handlerOp i s = .next q) : ∃ q', handlerOp i s' = .next q' ∧ SameEffect s s' q q' := by
  cases i with
  | enc p => cases hq; exact ⟨_, rfl, .encOp p h hcrc⟩
  | rpt => exact SameEffect.rptOp h hq
  | raw bytes => cases hq; exact ⟨_, rfl, .txWrite bytes _ h⟩
  | crc bytes =>
    cases hq
    refine ⟨_, rfl, ?_⟩
    rw [crcOp, crcOp, hcrc]
    exact .of_unchanged _ h
  | setos => cases hq; exact ⟨_, rfl, rfl, ⟨h.txbuf, h.txlen, rfl⟩, (SameEffect.of_unchanged (.plain .ok) h).sent⟩
  | reserved _ => cases hq; exact ⟨_, rfl, .of_unchanged _ h⟩
  | rst | rxb _ | frame _ | errframe => cases hq

end SameEffect

/-- Settles O30: what an operation of the encoder side reads is the encoder's elements and the parameters. -/
theorem encoderIgnoresDecoderState : Obligations.EncoderIgnoresDecoderState := by
  intro i s s' t hi hsame hcrc h
  rw [exec_of_encoderSide hi] at h
  obtain ⟨q, hq, rfl⟩ := finishOp_eq_next.1 h
  obtain ⟨q', hq', hresult, henc, x, hx, hx'⟩ := SameEffect.handlerOp hsame hcrc hq
  refine ⟨q'.1.record q'.2, x, q.2, ?_, ⟨henc.txbuf, henc.txlen, henc.os⟩, hx, hx', ?_, ?_⟩
  · rw [exec_of_encoderSide hi, hq', finishOp, andThen_next, finish_eq]
  · rw [State.record_results, (Reports.handlerOp hq).results]
  · rw [State.record_results, (Reports.handlerOp hq').results, hresult]

/-! ### The decoder beside the encoder -/

/-- The updates that the decoder makes of its own elements, and nothing else. -/
structure DecoderStep (s t : State) : Prop where
  rest : ∃ v c e m l, t = { s with st := v, cur := c, exp := e, rxbuf := m, frameBytes := l }

theorem DecoderStep.refl (s : State) : DecoderStep s s := ⟨s.st, s.cur, s.exp, s.rxbuf, s.frameBytes, rfl⟩

theorem DecoderStep.trans {s t u : State} (h : DecoderStep s t) (k : DecoderStep t u) : DecoderStep s u := by
  obtain ⟨_, _, _, _, _, rfl⟩ := h.rest
  obtain ⟨v, c, e, m, l, rfl⟩ := k.rest
  exact ⟨v, c, e, m, l, rfl⟩

theorem DecoderStep.of_update {s t : State} (h : DecoderUpdate s t) : DecoderStep s t := by
  cases h <;> exact ⟨_, _, _, _, _, rfl⟩

theorem DecoderStep.handler {s t : State} (h : DecoderStep s t) : t.handler = s.handler := by
  obtain ⟨_, _, _, _, _, rfl⟩ := h.rest
  rfl

/-- What RXB leaves and returns beside the decoder's own updates: nothing more, a delivery, or an error frame (R130, R206). -/
inductive RxbEffect (s : State) : State → OpResult → Prop where
  | quiet (t : State) (ht : DecoderStep s t) : RxbEffect s t (.plain .ok)
  | delivered (p : List Byte) (t u : State) (ht : DecoderStep s t) (hu : deliver p t = .next u) : RxbEffect s u (.plain .delivered)
  | rejected (kind : ResultCode) (hkind : kind.IsReceiveError) (t : State) (ht : DecoderStep s t) :
      RxbEffect s (sendFrame (errFrame s.crcParams s.os) t) (.mkFlag kind s.os)

theorem RxbEffect.of_row {b : Byte} {s : State} {q : State × OpResult} (h : RxbRow b s q) : RxbEffect s q.1 q.2 := by
  have hpush : DecoderStep s (s.pushRx b) := .of_update (.pushRx b s)
  have hlast : DecoderStep s (s.pushRx b).endFrame := hpush.trans (.of_update (.endFrame _))
  have hreject (kind : ResultCode) (hkind : kind.IsReceiveError) :
      RxbEffect s (rejectFrame kind (s.pushRx b)).1 (rejectFrame kind (s.pushRx b)).2 := by
    rw [rejectFrame_eq]
    exact .rejected kind hkind _ hlast
  cases h with
  | discarded => exact .quiet s (.refl s)
  | started => exact .quiet _ (.of_update (.startFrame b s))
  | headerByte => exact .quiet _ hpush
  | headerLast _ _ _ h0 h1 h2 h3 =>
    rcases validateHeader_cases h0 h1 h2 h3 (s.pushRx b) with ⟨-, -, e⟩ | ⟨-, -, e⟩ | ⟨-, e⟩ <;> rw [e]
    · exact .quiet _ (hpush.trans (.of_update (.acceptHeader _ _)))
    · exact hreject _ (by decide)
    · exact hreject _ (by decide)
  | bodyByte => exact .quiet _ hpush
  | delivered _ _ _ body _ _ _ _ _ _ _ u hu => exact .delivered body _ u hlast hu
  | mismatched => exact hreject _ (by decide)

/-- RXB of the host has its effect, and then the result is recorded. -/
theorem exec_rxb_effect {b : Byte} {s t : State} (h : exec (.rxb b) s = .next t) :
    ∃ u r, t = u.record r ∧ u.results = s.results ∧ RxbEffect s u r := by
  obtain ⟨q, hq, ht⟩ := finishOp_eq_next.1 h
  have hrow := rxbOp_rows hq
  exact ⟨q.1, q.2, ht, (Reports.rxbRow hrow).results, .of_row hrow⟩

/-- The result that RXB of the host adds is that of its effect. -/
theorem exec_rxb_effect_of_result {b : Byte} {s t : State} {r : OpResult} (h : exec (.rxb b) s = .next t)
    (hr : t.results = s.results ++ [r]) : ∃ u, t = u.record r ∧ RxbEffect s u r := by
  obtain ⟨u, r', rfl, hres, heffect⟩ := exec_rxb_effect h
  obtain rfl : r' = r := by simpa [hres] using hr
  exact ⟨u, rfl, heffect⟩

/-- A handler that issues nothing makes a delivery an entry in the history (R144). -/
theorem deliver_of_issues_nothing {p : List Byte} {s : State} (h : s.handler.headD [] = []) :
    deliver p s = .next ((s.logDelivery p).setHandler s.handler.tail) := by
  unfold deliver
  split
  · rename_i hs
    simp [State.logDelivery, State.setHandler, hs]
  · rename_i ops rest hs
    obtain rfl : ops = [] := by simpa [hs] using h
    rw [hs]
    rfl

/-- Settles O31: the decoder's own updates write no encoder element, nor does a delivery of which the handler makes nothing. -/
theorem rxbTouchesEncoderOnlyOnErrors : Obligations.RxbTouchesEncoderOnlyOnErrors := by
  intro b s t r h hr hcode
  obtain ⟨u, rfl, heffect⟩ := exec_rxb_effect_of_result h hr
  cases heffect with
  | quiet _ hu =>
    obtain ⟨_, _, _, _, _, rfl⟩ := hu.rest
    exact ⟨⟨rfl, rfl, rfl⟩, rfl, rfl⟩
  | delivered p v _ hv hu =>
    obtain ⟨-, hnothing⟩ := hcode.resolve_left (by decide)
    rw [deliver_of_issues_nothing (hv.handler ▸ hnothing)] at hu
    cases hu
    obtain ⟨_, _, _, _, _, rfl⟩ := hv.rest
    exact ⟨⟨rfl, rfl, rfl⟩, rfl, rfl⟩
  | rejected kind hkind =>
    rcases hcode with rfl | ⟨rfl, -⟩ <;> exact absurd hkind (by decide)

/-! ### RPT behind a receive error (R246) -/

/-- Settles O13: the error frame is sent as ENC sends a frame, so RPT finds it in the cache. -/
theorem rptAfterErrorRepeatsErrorFrame : Obligations.RptAfterErrorRepeatsErrorFrame := by
  intro b s t r h hr hcode
  obtain ⟨u, rfl, heffect⟩ := exec_rxb_effect_of_result h hr
  cases heffect with
  | quiet => exact absurd hcode (by decide)
  | delivered => exact absurd hcode (by decide)
  | rejected kind _ v hv =>
    have hlen : (errFrame s.crcParams s.os).length = 8 := length_errFrame ..
    obtain ⟨_, _, _, _, _, rfl⟩ := hv.rest
    exact ⟨_, exec_rpt_of_sendFrame _ _ (by omega) (by omega), List.append_assoc .., rfl⟩

/-! ### No one-shot frame without SETOS (R249) -/

/-- The results in `l'` behind those of `l` have no `ASYM`. -/
def AddsNoAsym (l l' : List OpResult) : Prop := ∃ rs, l' = l ++ rs ∧ ∀ r ∈ rs, r.asym = false

namespace AddsNoAsym
variable {l l' : List OpResult}

theorem refl (l : List OpResult) : AddsNoAsym l l := ⟨[], (List.append_nil l).symm, nofun⟩

theorem snoc {r : OpResult} (hr : r.asym = false) (h : AddsNoAsym l l') : AddsNoAsym l (l' ++ [r]) := by
  obtain ⟨rs, rfl, hrs⟩ := h
  refine ⟨rs ++ [r], List.append_assoc .., List.forall_mem_append.2 ⟨hrs, ?_⟩⟩
  simpa using hr

theorem asym_of_mem_drop (h : AddsNoAsym l l') : ∀ r ∈ l'.drop l.length, r.asym = false := by
  obtain ⟨rs, rfl, hrs⟩ := h
  rwa [List.drop_left]

end AddsNoAsym

/-- From `s` to `t` no one-shot frame was sent, and none is to come: the flag is clear, no answer of the handler has a SETOS, and no
result since `s` has `ASYM`. -/
structure OneShotFree (s t : State) : Prop where
  os : t.os = false
  handler : ∀ ops ∈ t.handler, Instr.setos ∉ ops
  results : AddsNoAsym s.results t.results
  handlerResults : AddsNoAsym s.handlerResults t.handlerResults

/-- An operation of the encoder side other than SETOS does not set the flag. -/
theorem os_handlerOp {i : Instr} {s : State} {q : State × OpResult} (hos : s.os = false) (hi : i ≠ .setos)
    (hq : handlerOp i s = .next q) : q.1.os = false := by
  cases i with
  | enc p =>
    cases hq
    by_cases hp : p.length ≤ 1024
    · rw [encOp_of_le hp]
      rfl
    · rwa [encOp_of_gt (by omega)]
  | rpt => rcases (rptOp_eq_next hq).2 with ⟨-, e⟩ | ⟨-, -, f, -, e⟩ <;> rwa [e]
  | raw _ | crc _ | reserved _ => cases hq; exact hos
  | setos => exact absurd rfl hi
  | rst | rxb _ | frame _ | errframe => cases hq

/-- With the flag clear an operation of the encoder side reports no `ASYM` (R85). -/
theorem asym_handlerOp {i : Instr} {s : State} {q : State × OpResult} (hos : s.os = false) (hq : handlerOp i s = .next q) :
    q.2.asym = false := by
  simpa [hos] using (Reports.handlerOp hq).asym

namespace OneShotFree
variable {s0 s t : State}

theorem record {r : OpResult} (hr : r.asym = false) (h : OneShotFree s0 s) : OneShotFree s0 (s.record r) :=
  { h with results := h.results.snoc hr }

theorem recordHandler {r : OpResult} (hr : r.asym = false) (h : OneShotFree s0 s) : OneShotFree s0 (s.recordHandler r) :=
  { h with handlerResults := h.handlerResults.snoc hr }

theorem encoderStep (hstep : EncoderStep s t) (hos : t.os = false) (h : OneShotFree s0 s) : OneShotFree s0 t := by
  obtain ⟨m, n, o, x, l, rfl⟩ := hstep.rest
  exact { h with os := hos }

theorem decoderStep (hstep : DecoderStep s t) (h : OneShotFree s0 s) : OneShotFree s0 t := by
  obtain ⟨v, c, e, m, l, rfl⟩ := hstep.rest
  exact { h with }

theorem handlerOp {i : Instr} {q : State × OpResult} (hi : i ≠ .setos) (hq : handlerOp i s = .next q) (h : OneShotFree s0 s) :
    OneShotFree s0 q.1 :=
  h.encoderStep (handlerOp_step hq) (os_handlerOp h.os hi hq)

theorem runHandler {ops : List Instr} (hops : Instr.setos ∉ ops) (ht : runHandler ops s = .next t) (h : OneShotFree s0 s) :
    OneShotFree s0 t := by
  induction ops generalizing s with
  | nil => cases ht; exact h
  | cons i rest ih =>
    obtain ⟨q, hq, ht⟩ := andThen_eq_next.1 ht
    have hi : i ≠ .setos := (List.ne_of_not_mem_cons hops).symm
    exact ih (List.not_mem_of_not_mem_cons hops) ht ((h.handlerOp hi hq).recordHandler (asym_handlerOp h.os hq))

/-- A delivery runs the next answer of the handler, which has no SETOS. -/
theorem deliver {p : List Byte} (ht : deliver p s = .next t) (h : OneShotFree s0 s) : OneShotFree s0 t := by
  unfold Machine.deliver at ht
  split at ht
  · cases ht
    exact { h with }
  · rename_i ops rest hs
    obtain ⟨hops, hrest⟩ := List.forall_mem_cons.1 (hs ▸ h.handler)
    exact runHandler hops ht { h with handler := hrest }

theorem execRxb {b : Byte} (ht : exec (.rxb b) s = .next t) (h : OneShotFree s0 s) : OneShotFree s0 t := by
  obtain ⟨u, r, rfl, -, heffect⟩ := exec_rxb_effect ht
  cases heffect with
  | quiet _ hu => exact (h.decoderStep hu).record rfl
  | delivered p v _ hv hu => exact ((h.decoderStep hv).deliver hu).record rfl
  | rejected kind _ v hv => exact ((h.decoderStep hv).encoderStep (.sendFrame _ v) rfl).record h.os

theorem feedBytes {bytes : List Byte} (ht : feedBytes bytes s = .next t) (h : OneShotFree s0 s) : OneShotFree s0 t := by
  induction bytes generalizing s with
  | nil => cases ht; exact h
  | cons b rest ih =>
    obtain ⟨u, hu, ht⟩ := andThen_eq_next.1 ht
    exact ih ht (h.execRxb hu)

theorem exec {i : Instr} (hi : i ≠ .setos) (ht : exec i s = .next t) (h : OneShotFree s0 s) : OneShotFree s0 t := by
  cases he : encoderSide i with
  | true =>
    rw [exec_of_encoderSide he] at ht
    obtain ⟨q, hq, rfl⟩ := finishOp_eq_next.1 ht
    exact (h.handlerOp hi hq).record (asym_handlerOp h.os hq)
  | false =>
    rcases cases_of_not_encoderSide he with rfl | ⟨b, rfl⟩ | ⟨p, rfl⟩ | rfl
    · cases ht
      exact record rfl { h with os := rfl }
    · exact h.execRxb ht
    · exact h.feedBytes ht
    · exact h.feedBytes ht

end OneShotFree

/-- Settles O33: with the flag clear, only a SETOS can set it, and a frame encoded with the flag clear has no `ASYM` to report. -/
theorem oneShotNeedsSetos : Obligations.OneShotNeedsSetos := by
  intro i s t hos hi hhandler h
  have hfree : OneShotFree s t := OneShotFree.exec hi h ⟨hos, hhandler, .refl _, .refl _⟩
  exact ⟨hfree.os, hfree.results.asym_of_mem_drop, hfree.handlerResults.asym_of_mem_drop⟩

end Sys2Proof.Machine
end
